-- ==== Sys2Proof/Word.lean ====
section
/-! DEFINITION. The bit vectors of the block (spec 30_encoding.md rule R70): every value is unsigned. -/

namespace Sys2Proof

/-- A symbol code, 3 bits (R70, R71). Code 7 is reserved (R72). -/
abbrev SymCode := BitVec 3

/-- A command code or the address, 7 bits (R70, R83 (e): all 128 values are legal). -/
abbrev CmdCode := BitVec 7

/-- A raw analog sample, 10 bits (R23, R70). -/
abbrev RawSample := BitVec 10

/-- A stimulus word, format STIM, 16 bits (R74). -/
abbrev StimWord := BitVec 16

/-- A scheduler mode, 2 bits (R33). -/
abbrev ModeCode := BitVec 2

/-- Mode READY = 0: the dispatcher evaluates at this tick (R33). -/
abbrev modeReady : ModeCode := 0#2

/-- Mode TX = 1: a transmission is in flight (R33). -/
abbrev modeTx : ModeCode := 1#2

/-- Mode WAIT = 2: the dispatcher is in a blocking wait after a transmission (R33). -/
abbrev modeWait : ModeCode := 2#2

end Sys2Proof
end

