-- ==== Sys2Proof/Syntax.lean ====
section
/-! DEFINITION. The symbols (R71), the seven selector formats (R74, R76 to R81), and the operations: one
constructor of `Instr` for each of the 41 rows of spec/opcode_table.json (R88). -/

namespace Sys2Proof

/-- The symbol set (R71): one idle variant and six buttons. -/
inductive Symbol
  | idle | volUp | volDown | source | seekFwd | seekBack | extra
deriving DecidableEq, Repr

/-- The code of a symbol (R71); a lower non-zero code has higher priority. -/
def Symbol.code : Symbol → SymCode
  | .idle => 0
  | .volUp => 1
  | .volDown => 2
  | .source => 3
  | .seekFwd => 4
  | .seekBack => 5
  | .extra => 6

/-- The formats of the operation map (R74, R76 to R81). -/
inductive Format
  | stim | csel | dsel | osel | ssel | psel | esel
deriving DecidableEq, Repr

/-- The width in bits of a word of a format (R74, R76 to R81). -/
def Format.width : Format → Nat
  | .stim => 16
  | .csel => 6
  | .dsel => 2
  | .osel => 3
  | .ssel => 4
  | .psel => 5
  | .esel => 3

/-- One word of one format, of exactly that format's width. A STIM word enters the block from outside
(R74); every other word is computed inside one OP_TICK (30_encoding.md section 2). -/
inductive OpWord
  | stim (w : BitVec 16)
  | csel (w : BitVec 6)
  | dsel (w : BitVec 2)
  | osel (w : BitVec 3)
  | ssel (w : BitVec 4)
  | psel (w : BitVec 5)
  | esel (w : BitVec 3)
deriving DecidableEq, Repr

/-- The operations of the block, in the order of spec/opcode_table.json (R88). -/
inductive Instr
  | opReset
  | opTick (raw : RawSample)
  | clsVolup
  | clsVoldn
  | clsSource
  | clsSeekf
  | clsSeekb
  | clsExtra
  | clsIdle
  | dbMatch
  | dbCount
  | dbCommit
  | outCont
  | outRearm
  | outShot
  | outSupp
  | schEval
  | schTxAdv
  | schTxDoneEval
  | schTxDoneWait
  | schWaitDec
  | schWaitDone
  | dspIdle
  | dspVolup
  | dspVoldn
  | dspSourceEdge
  | dspSourceHold
  | dspSeekfFirst
  | dspSeekfHeld
  | dspSeekfHeldSame
  | dspSeekbFirst
  | dspSeekbHeld
  | dspSeekbHeldSame
  | dspExtraEdge
  | dspExtraHold
  | encBusrst
  | encAgcLow
  | encAgcHigh
  | encMark
  | encSpace
  | encExt
deriving DecidableEq, Repr

end Sys2Proof
end

