-- ==== Sys2Proof/Config.lean ====
section
/-! DEFINITION. The configuration of 00_scope.md rule R7: parameters of the machine, fixed before the first reset and
written by no operation. A deployment variant is one legal value of `Config` (R9). -/

namespace Sys2Proof

/-- `WINDOW_EDGES` (R7, R100): whether the two edges of a tolerance window belong to it. OPEN in the spec. -/
inductive WindowEdges
  | inclusive | exclusive
deriving DecidableEq, Repr

/-- One row of the calibration table (R42): the window's center and its half-width (R100), plain integers. -/
structure CalRow where
  center : Nat
  tol : Nat
deriving DecidableEq, Repr

/-- The parameters of rule R7 that a deployment may set. Seven-bit commands and address, the 1-bit switches, `R` (16 bits)
and `G` (8 bits) are in range by their types; `Config.legal` checks the other constraints of R8. -/
structure Config where
  /-- `CENTER`/`TOL` of VOL_UP. -/
  volUp : CalRow
  /-- `CENTER`/`TOL` of VOL_DOWN. -/
  volDown : CalRow
  /-- `CENTER`/`TOL` of SOURCE. -/
  source : CalRow
  /-- `CENTER`/`TOL` of SEEK_FWD. -/
  seekFwd : CalRow
  /-- `CENTER`/`TOL` of SEEK_BACK. -/
  seekBack : CalRow
  /-- `CENTER`/`TOL` of EXTRA. -/
  extra : CalRow
  /-- `WINDOW_EDGES`. -/
  edges : WindowEdges
  /-- `N`, the stability window in ticks (R123: a model may take `N` directly; log entry 13). -/
  n : Nat
  /-- `RESET_SYM`, the filter's idle/reset symbol. -/
  resetSym : SymCode
  /-- `ONESHOT`. -/
  oneshot : Bool
  /-- `HELD_SAME`. -/
  heldSame : Bool
  cmdVolup : CmdCode
  cmdVoldn : CmdCode
  cmdSource : CmdCode
  cmdSeekfFirst : CmdCode
  cmdSeekfHeld : CmdCode
  cmdSeekbFirst : CmdCode
  cmdSeekbHeld : CmdCode
  cmdExtra : CmdCode
  /-- `ADDR`. -/
  addr : CmdCode
  /-- `R` (`REPEAT_WAIT_TICKS`). -/
  repeatWait : BitVec 16
  /-- `G` (`RESUME_GAP_TICKS`). -/
  resumeGap : BitVec 8
deriving DecidableEq, Repr

/-- The calibration row of a button; IDLE has none (R42). -/
def Config.cal (c : Config) : Symbol → Option CalRow
  | .idle => none
  | .volUp => some c.volUp
  | .volDown => some c.volDown
  | .source => some c.source
  | .seekFwd => some c.seekFwd
  | .seekBack => some c.seekBack
  | .extra => some c.extra

/-- `TICK_US` (R7), microseconds. Used only to turn a window in milliseconds into ticks (R123). -/
def tickUs : Nat := 527

/-- `FRAME_REPEATS` (R7, R197). -/
def frameRepeats : Nat := 3

/-- The level driven by a tick in TX whose `tx_pos` is at or past the end of the waveform of `tx_cmd`: the spec gives
`TXWAVE(tx_cmd)[tx_pos]` no value there (R35, R197, R199). A free value, by address, command and position: nothing constrains it.
DESIGN CHOICE (log entry 6); no state that reset reaches reads it. -/
opaque Config.levelPastEnd : CmdCode → CmdCode → BitVec 9 → Bool

/-- The example configuration EX1 of 95_test_vectors.md section 1. No value of it is from the source (G1). -/
def Config.ex1 : Config where
  volUp := ⟨100, 20⟩
  volDown := ⟨200, 20⟩
  source := ⟨300, 20⟩
  seekFwd := ⟨400, 20⟩
  seekBack := ⟨500, 20⟩
  extra := ⟨600, 20⟩
  edges := .inclusive
  n := 4
  resetSym := 0
  oneshot := false
  heldSame := false
  cmdVolup := 0x01
  cmdVoldn := 0x02
  cmdSource := 0x03
  cmdSeekfFirst := 0x10
  cmdSeekfHeld := 0x11
  cmdSeekbFirst := 0x20
  cmdSeekbHeld := 0x21
  cmdExtra := 0x7F
  addr := 0x47
  repeatWait := 5
  resumeGap := 0

/-- The example configuration EX2: EX1 with `R = 400`, so that every parameter R7 fixes for this hardware (`ADDR`, `R`, `G`,
`ONESHOT`, `RESET_SYM`) has the hardware's value. The OPEN parameters are EX1's.
DESIGN CHOICE (log entry 1, unsafe for a claim about `State.reset` alone). -/
def Config.ex2 : Config := { Config.ex1 with repeatWait := 400 }

end Sys2Proof
end

