-- ==== Sys2Proof/WellFormed.lean ====
section
/-! DEFINITION. Legality of a configuration (R8) and of an operation word (R82, R83). A term of `Instr` needs no check: its one
operand, the raw sample, is 10 bits by type (R23). -/

namespace Sys2Proof

/-- `CENTER[s]` and `TOL[s]` are each in 0..1023 (R8). -/
def CalRow.legal (r : CalRow) : Bool :=
  decide (r.center ≤ 1023) && decide (r.tol ≤ 1023)

/-- `N` is in 1..65535 (R8). -/
def Config.windowLegal (c : Config) : Bool :=
  decide (1 ≤ c.n) && decide (c.n ≤ 65535)

/-- `R + G` is at most 65535 (R8). -/
def Config.waitLegal (c : Config) : Bool :=
  decide (c.repeatWait.toNat + c.resumeGap.toNat ≤ 65535)

/-- `RESET_SYM` is a defined symbol code, 0..6 (R8). -/
def Config.resetSymLegal (c : Config) : Bool :=
  decide (c.resetSym.toNat ≤ 6)

/-- Configuration legality (R8). The ranges of `CMD_*`, `ADDR`, `ONESHOT` and `HELD_SAME` hold by type. -/
def Config.legal (c : Config) : Bool :=
  c.volUp.legal && c.volDown.legal && c.source.legal && c.seekFwd.legal && c.seekBack.legal && c.extra.legal
    && c.windowLegal && c.waitLegal && c.resetSymLegal

/-- The words that spell an operation; the others are reserved (R75, R82, R83): a STIM word with `rst = 0` and bits 14:10
non-zero, an SSEL word with mode 3, a PSEL word with symbol code 7, ESEL types 6 and 7. -/
def OpWord.wellFormed : OpWord → Bool
  | .stim w => w.getLsbD 15 || decide (w.extractLsb' 10 5 = 0#5)
  | .csel _ => true
  | .dsel _ => true
  | .osel _ => true
  | .ssel w => !decide (w.extractLsb' 0 2 = 3#2)
  | .psel w => !decide (w.extractLsb' 0 3 = 7#3)
  | .esel w => decide (w.toNat ≤ 5)

end Sys2Proof
end

