-- ==== Sys2Proof/Decode.lean ====
section
/-! DEFINITION. The decoder of each format, written row by row as `(word and mask) = match` from the tables of
30_encoding.md rules R74 to R81; the encoder; the opcode table as data; and the host's `decodeTableWord`. -/

namespace Sys2Proof

/-- STIM (R74, R75). `none` where `rst = 0` and the reserved bits 14:10 are not 0. -/
def decodeStim (w : BitVec 16) : Option Instr :=
  if w &&& 0x8000#16 = 0x8000#16 then some .opReset
  else if w &&& 0xFC00#16 = 0x0000#16 then some (.opTick (w.extractLsb' 0 10))
  else none

/-- CSEL (R76): a priority encoder, lowest set bit wins. All 64 words are covered (R82), so the last row takes what is left:
the word 0. -/
def decodeCsel (h : BitVec 6) : Instr :=
  if h &&& 0b000001#6 = 0b000001#6 then .clsVolup
  else if h &&& 0b000011#6 = 0b000010#6 then .clsVoldn
  else if h &&& 0b000111#6 = 0b000100#6 then .clsSource
  else if h &&& 0b001111#6 = 0b001000#6 then .clsSeekf
  else if h &&& 0b011111#6 = 0b010000#6 then .clsSeekb
  else if h &&& 0b111111#6 = 0b100000#6 then .clsExtra
  else .clsIdle

/-- DSEL (R77): `{eq, thr}`. All 4 words are covered (R82); the last row is the word 0b01. -/
def decodeDsel (w : BitVec 2) : Instr :=
  if w &&& 0b10#2 = 0b10#2 then .dbMatch
  else if w &&& 0b11#2 = 0b00#2 then .dbCount
  else .dbCommit

/-- OSEL (R78): `{os, isrst, armed}`. All 8 words are covered (R82); the last row is the word 0b100. -/
def decodeOsel (w : BitVec 3) : Instr :=
  if w &&& 0b100#3 = 0b000#3 then .outCont
  else if w &&& 0b110#3 = 0b110#3 then .outRearm
  else if w &&& 0b111#3 = 0b101#3 then .outShot
  else .outSupp

/-- SSEL (R79): `{post0, last, mode}`. `none` for mode 3 (R83 (b)). -/
def decodeSsel (w : BitVec 4) : Option Instr :=
  if w &&& 0b0011#4 = 0b0000#4 then some .schEval
  else if w &&& 0b0111#4 = 0b0001#4 then some .schTxAdv
  else if w &&& 0b1111#4 = 0b1101#4 then some .schTxDoneEval
  else if w &&& 0b1111#4 = 0b0101#4 then some .schTxDoneWait
  else if w &&& 0b0111#4 = 0b0010#4 then some .schWaitDec
  else if w &&& 0b0111#4 = 0b0110#4 then some .schWaitDone
  else none

/-- PSEL (R80): `{hs, edge, cur}`. `none` for symbol code 7 (R83 (a)). -/
def decodePsel (w : BitVec 5) : Option Instr :=
  if w &&& 0b00111#5 = 0b00000#5 then some .dspIdle
  else if w &&& 0b00111#5 = 0b00001#5 then some .dspVolup
  else if w &&& 0b00111#5 = 0b00010#5 then some .dspVoldn
  else if w &&& 0b01111#5 = 0b01011#5 then some .dspSourceEdge
  else if w &&& 0b01111#5 = 0b00011#5 then some .dspSourceHold
  else if w &&& 0b01111#5 = 0b01100#5 then some .dspSeekfFirst
  else if w &&& 0b11111#5 = 0b00100#5 then some .dspSeekfHeld
  else if w &&& 0b11111#5 = 0b10100#5 then some .dspSeekfHeldSame
  else if w &&& 0b01111#5 = 0b01101#5 then some .dspSeekbFirst
  else if w &&& 0b11111#5 = 0b00101#5 then some .dspSeekbHeld
  else if w &&& 0b11111#5 = 0b10101#5 then some .dspSeekbHeldSame
  else if w &&& 0b01111#5 = 0b01110#5 then some .dspExtraEdge
  else if w &&& 0b01111#5 = 0b00110#5 then some .dspExtraHold
  else none

/-- ESEL (R81): the segment type. `none` for types 6 and 7 (R83 (c)). -/
def decodeEsel (w : BitVec 3) : Option Instr :=
  if w = 0b000#3 then some .encBusrst
  else if w = 0b001#3 then some .encAgcLow
  else if w = 0b010#3 then some .encAgcHigh
  else if w = 0b011#3 then some .encMark
  else if w = 0b100#3 then some .encSpace
  else if w = 0b101#3 then some .encExt
  else none

/-- The decoder: total on every word of every format; `none` on a reserved word (R82, R83). -/
def decode : OpWord → Option Instr
  | .stim w => decodeStim w
  | .csel w => some (decodeCsel w)
  | .dsel w => some (decodeDsel w)
  | .osel w => some (decodeOsel w)
  | .ssel w => decodeSsel w
  | .psel w => decodePsel w
  | .esel w => decodeEsel w

/-- The encoder: the row's match value, every don't-care bit 0, and the raw sample in bits 9:0 of OP_TICK (R74 to R81). -/
def encode : Instr → OpWord
  | .opReset => .stim 0x8000
  | .opTick raw => .stim (raw.setWidth 16)
  | .clsVolup => .csel 0b000001
  | .clsVoldn => .csel 0b000010
  | .clsSource => .csel 0b000100
  | .clsSeekf => .csel 0b001000
  | .clsSeekb => .csel 0b010000
  | .clsExtra => .csel 0b100000
  | .clsIdle => .csel 0b000000
  | .dbMatch => .dsel 0b10
  | .dbCount => .dsel 0b00
  | .dbCommit => .dsel 0b01
  | .outCont => .osel 0b000
  | .outRearm => .osel 0b110
  | .outShot => .osel 0b101
  | .outSupp => .osel 0b100
  | .schEval => .ssel 0b0000
  | .schTxAdv => .ssel 0b0001
  | .schTxDoneEval => .ssel 0b1101
  | .schTxDoneWait => .ssel 0b0101
  | .schWaitDec => .ssel 0b0010
  | .schWaitDone => .ssel 0b0110
  | .dspIdle => .psel 0b00000
  | .dspVolup => .psel 0b00001
  | .dspVoldn => .psel 0b00010
  | .dspSourceEdge => .psel 0b01011
  | .dspSourceHold => .psel 0b00011
  | .dspSeekfFirst => .psel 0b01100
  | .dspSeekfHeld => .psel 0b00100
  | .dspSeekfHeldSame => .psel 0b10100
  | .dspSeekbFirst => .psel 0b01101
  | .dspSeekbHeld => .psel 0b00101
  | .dspSeekbHeldSame => .psel 0b10101
  | .dspExtraEdge => .psel 0b01110
  | .dspExtraHold => .psel 0b00110
  | .encBusrst => .esel 0b000
  | .encAgcLow => .esel 0b001
  | .encAgcHigh => .esel 0b010
  | .encMark => .esel 0b011
  | .encSpace => .esel 0b100
  | .encExt => .esel 0b101

/-! ### The opcode table as data -/

/-- One row of the operation map: its format and the word pattern that selects it (R74 to R81). -/
structure Row where
  fmt : Format
  pattern : Nat
  mask : Nat
deriving DecidableEq, Repr

/-- The table row each operation stands for (R88; the cells of R75 to R81). -/
def Instr.row : Instr → Row
  | .opReset => ⟨.stim, 0x8000, 0x8000⟩
  | .opTick _ => ⟨.stim, 0x0000, 0xFC00⟩
  | .clsVolup => ⟨.csel, 0b000001, 0b000001⟩
  | .clsVoldn => ⟨.csel, 0b000010, 0b000011⟩
  | .clsSource => ⟨.csel, 0b000100, 0b000111⟩
  | .clsSeekf => ⟨.csel, 0b001000, 0b001111⟩
  | .clsSeekb => ⟨.csel, 0b010000, 0b011111⟩
  | .clsExtra => ⟨.csel, 0b100000, 0b111111⟩
  | .clsIdle => ⟨.csel, 0b000000, 0b111111⟩
  | .dbMatch => ⟨.dsel, 0b10, 0b10⟩
  | .dbCount => ⟨.dsel, 0b00, 0b11⟩
  | .dbCommit => ⟨.dsel, 0b01, 0b11⟩
  | .outCont => ⟨.osel, 0b000, 0b100⟩
  | .outRearm => ⟨.osel, 0b110, 0b110⟩
  | .outShot => ⟨.osel, 0b101, 0b111⟩
  | .outSupp => ⟨.osel, 0b100, 0b111⟩
  | .schEval => ⟨.ssel, 0b0000, 0b0011⟩
  | .schTxAdv => ⟨.ssel, 0b0001, 0b0111⟩
  | .schTxDoneEval => ⟨.ssel, 0b1101, 0b1111⟩
  | .schTxDoneWait => ⟨.ssel, 0b0101, 0b1111⟩
  | .schWaitDec => ⟨.ssel, 0b0010, 0b0111⟩
  | .schWaitDone => ⟨.ssel, 0b0110, 0b0111⟩
  | .dspIdle => ⟨.psel, 0b00000, 0b00111⟩
  | .dspVolup => ⟨.psel, 0b00001, 0b00111⟩
  | .dspVoldn => ⟨.psel, 0b00010, 0b00111⟩
  | .dspSourceEdge => ⟨.psel, 0b01011, 0b01111⟩
  | .dspSourceHold => ⟨.psel, 0b00011, 0b01111⟩
  | .dspSeekfFirst => ⟨.psel, 0b01100, 0b01111⟩
  | .dspSeekfHeld => ⟨.psel, 0b00100, 0b11111⟩
  | .dspSeekfHeldSame => ⟨.psel, 0b10100, 0b11111⟩
  | .dspSeekbFirst => ⟨.psel, 0b01101, 0b01111⟩
  | .dspSeekbHeld => ⟨.psel, 0b00101, 0b11111⟩
  | .dspSeekbHeldSame => ⟨.psel, 0b10101, 0b11111⟩
  | .dspExtraEdge => ⟨.psel, 0b01110, 0b01111⟩
  | .dspExtraHold => ⟨.psel, 0b00110, 0b01111⟩
  | .encBusrst => ⟨.esel, 0b000, 0b111⟩
  | .encAgcLow => ⟨.esel, 0b001, 0b111⟩
  | .encAgcHigh => ⟨.esel, 0b010, 0b111⟩
  | .encMark => ⟨.esel, 0b011, 0b111⟩
  | .encSpace => ⟨.esel, 0b100, 0b111⟩
  | .encExt => ⟨.esel, 0b101, 0b111⟩

/-- The 41 operations in table order, OP_TICK with its raw field 0 (R88). -/
def operations : List Instr :=
  [.opReset, .opTick 0, .clsVolup, .clsVoldn, .clsSource, .clsSeekf, .clsSeekb, .clsExtra, .clsIdle,
   .dbMatch, .dbCount, .dbCommit, .outCont, .outRearm, .outShot, .outSupp,
   .schEval, .schTxAdv, .schTxDoneEval, .schTxDoneWait, .schWaitDec, .schWaitDone] ++
  [.dspIdle, .dspVolup, .dspVoldn, .dspSourceEdge, .dspSourceHold, .dspSeekfFirst, .dspSeekfHeld, .dspSeekfHeldSame,
   .dspSeekbFirst, .dspSeekbHeld, .dspSeekbHeldSame, .dspExtraEdge, .dspExtraHold,
   .encBusrst, .encAgcLow, .encAgcHigh, .encMark, .encSpace, .encExt]

/-- The opcode table: 41 rows in table order (R88). -/
def opcodeTable : List Row := operations.map Instr.row

/-- The format of a word. -/
def OpWord.fmt : OpWord → Format
  | .stim _ => .stim
  | .csel _ => .csel
  | .dsel _ => .dsel
  | .osel _ => .osel
  | .ssel _ => .ssel
  | .psel _ => .psel
  | .esel _ => .esel

/-- The bits of a word as a number, bit 0 least significant (R10). -/
def OpWord.bits : OpWord → Nat
  | .stim w => w.toNat
  | .csel w => w.toNat
  | .dsel w => w.toNat
  | .osel w => w.toNat
  | .ssel w => w.toNat
  | .psel w => w.toNat
  | .esel w => w.toNat

/-- The word of a format whose bits are the low bits of `w`. -/
def OpWord.ofBits (f : Format) (w : Nat) : OpWord :=
  match f with
  | .stim => .stim (BitVec.ofNat 16 w)
  | .csel => .csel (BitVec.ofNat 6 w)
  | .dsel => .dsel (BitVec.ofNat 2 w)
  | .osel => .osel (BitVec.ofNat 3 w)
  | .ssel => .ssel (BitVec.ofNat 4 w)
  | .psel => .psel (BitVec.ofNat 5 w)
  | .esel => .esel (BitVec.ofNat 3 w)

/-- A row selects its operation when `(word & mask) = match`, on words of its own format (30_encoding.md section 2). -/
def Row.selects (r : Row) (w : OpWord) : Bool :=
  decide (w.fmt = r.fmt) && decide (w.bits &&& r.mask = r.pattern)

/-! ### The host's reading of a bare table word -/

/-- Whether `nbits` is the row's width, taken exactly or in whole bytes. -/
def Row.fits (r : Row) (nbits : Nat) : Bool :=
  decide (nbits = r.fmt.width) || decide (nbits = (r.fmt.width + 7) / 8 * 8)

/-- The format a bare word is read in. A table word comes without its format, and six formats fit in one byte, so the same
byte is a word of several of them: the first row of the table whose match value is the word decides, and if there is none
the first row that selects it. DESIGN CHOICE (log entry 4): used by `decodeTableWord` and `withFetchWord` alone. -/
def tableFormat (nbits w : Nat) : Option Format :=
  let rows := opcodeTable.filter fun r => r.fits nbits && decide (w < 2 ^ r.fmt.width)
  ((rows.find? fun r => decide (w = r.pattern)).or (rows.find? fun r => decide (w &&& r.mask = r.pattern))).map Row.fmt

/-- The operation the decoder reads from a bare table word (log entry 4); `none` where no row selects it. -/
def decodeTableWord (nbits w : Nat) : Option Instr :=
  match tableFormat nbits w with
  | none => none
  | some f => decode (OpWord.ofBits f w)

end Sys2Proof
end

