-- ==== Sys2Proof/Machine/State.lean ====
section
/-! DEFINITION. The state of the block (10_state.md rules R28 to R40), the tick-local values of one OP_TICK (R150), the
configuration (R7), the pending stimulus (R74), the faults and refusals (R220), and the state after reset (R250, R252). -/

namespace Sys2Proof.Machine

/-- The values that live inside one OP_TICK only (R11, R150): no register of the block, and back at `TickLocal.idle` when the
tick ends (log entry 3). -/
structure TickLocal where
  /-- `raw_sample` as presented at this tick (R23). -/
  raw : RawSample
  /-- `s`, the classifier's result of this tick (R101). -/
  sym : SymCode
  /-- `eval`, set by the scheduler operation of this tick (R150 stage 1). -/
  eval : Bool
  /-- `b`, the bit value whose segments are being appended (R195). -/
  encBit : Bool
  /-- The levels of the waveform appended so far by the segment operations, one per tick, oldest first (R190 to R197). -/
  wave : List Bool
deriving DecidableEq, Repr

/-- The tick-local values between two ticks. -/
def TickLocal.idle : TickLocal := { raw := 0, sym := 0, eval := false, encBit := false, wave := [] }

/-- The whole machine. Registers are named, not indexed (R11, R26). -/
structure State where
  /-- R28: the filter's last accepted symbol. -/
  stable : SymCode
  /-- R29: the run counter of differing ticks. -/
  dcount : BitVec 16
  /-- R30: the one-shot latch. -/
  armed : Bool
  /-- R31: the filter output. -/
  fout : SymCode
  /-- R32: the filter output read at the last evaluation. -/
  prev : SymCode
  /-- R33: the scheduler state. -/
  mode : ModeCode
  /-- R34: the command of the transmission in flight. -/
  txCmd : CmdCode
  /-- R35: the index of the current tick in the transmission waveform. -/
  txPos : BitVec 9
  /-- R36: whether the transmission in flight was emitted for a volume symbol. -/
  txVol : Bool
  /-- R37: further wait ticks before the next evaluation. -/
  waitLeft : BitVec 16
  /-- R38: the output pin register. -/
  pin : Bool
  /-- R39: whether `emit` ran in this tick. -/
  cmdStrobe : Bool
  /-- R39: the last emitted code. -/
  cmdCode : CmdCode
  /-- R40: whether an OP_RESET has run (model-only, the spec's). -/
  hasReset : Bool
  /-- The tick-local values (R150). The model's own field. -/
  loc : TickLocal
  /-- The parameters of R7: written by no operation (log entry 1). -/
  cfg : Config
  /-- The stimulus words of the coming tick events, in tick order (R74; log entry 2). -/
  input : List StimWord
  /-- The host's probe slot: one operation of the map that the next step runs alone. `none` in every run of the block; the
  model's own field (log entry 5). -/
  slot : Option Instr
deriving DecidableEq, Repr

/-- Why the machine stops in a fault (R220): it reached a state that the block's rules give no meaning. A fault ends the run and
nothing clears it (R224; log entry 8). All are safe: the model gives no value where the spec gives none. -/
inductive Fault
  /-- Raised by stage 0 of OP_TICK before the first OP_RESET (R221). Safe. -/
  | notReset
  /-- Raised by stage 1 of OP_TICK when `mode = 3` (R222); unreachable from reset. Safe. -/
  | reservedMode
  /-- Raised by stage 5 of OP_TICK when an evaluation reads symbol code 7 (R184); unreachable from reset. Safe. -/
  | reservedSymbol
  /-- Raised by the pin stage on a segment of type 6 or 7 (R223); no state reaches it. Safe. -/
  | reservedSegment
deriving DecidableEq, Repr

/-- Why a step is refused (R220): the input or the configuration spells nothing the block takes. -/
inductive Refusal
  /-- Raised by an arm of `exec` without a meaning; no arm has it now. Safe. -/
  | notModelled (mnemonic : String)
  /-- Raised by `step` on a stimulus word with `rst = 0` and bits 14:10 non-zero (R75). Safe. -/
  | reservedStimulus
  /-- Raised by `step` under a configuration that R8 calls illegal (R220). Safe. -/
  | illegalConfig
  /-- Raised where the stage selection inside a tick is asked to run OP_RESET or OP_TICK, which are no stage operation (R150,
  R21); no state reaches it. The model's own name (log entry 14). Safe. -/
  | notAStageOperation
deriving DecidableEq, Repr

/-- The state after OP_RESET under configuration `c`, with nothing placed (R250, R252). -/
def State.resetOf (c : Config) : State where
  stable := c.resetSym
  dcount := 0
  armed := true
  fout := c.resetSym
  prev := 0
  mode := modeReady
  txCmd := 0
  txPos := 0
  txVol := false
  waitLeft := 0
  pin := true
  cmdStrobe := false
  cmdCode := 0
  hasReset := true
  loc := TickLocal.idle
  cfg := c
  input := []
  slot := none

/-- The machine right after reset (R252; log entry 7). Its configuration is EX2 of the spec's examples: the hardware's values where R7 gives
them, the example's where R7 says OPEN. DESIGN CHOICE (log entry 1). -/
def State.reset : State := State.resetOf Config.ex2

end Sys2Proof.Machine
end

