-- ==== Sys2Proof/Machine/Operands.lean ====
section
/-! DEFINITION. The operands of the operations (30_encoding.md rule R85): the window test, the threshold, the post-transmission
wait, the lengths, and the segment list of a transmission. All are computed on unbounded naturals (R10, R15). -/

namespace Sys2Proof.Machine

/-- The number whose bits, least significant first, are `bs` (R10). -/
def bitsVal : List Bool → Nat
  | [] => 0
  | b :: bs => b.toNat + 2 * bitsVal bs

/-! ### Classifier (41_classifier.md) -/

/-- `lo(s) = max(0, CENTER[s] - TOL[s])` (R100): natural subtraction stops at 0, which is the clamp. -/
def winLo (r : CalRow) : Nat := r.center - r.tol

/-- `hi(s) = CENTER[s] + TOL[s]` (R100), not clamped above (R110). -/
def winHi (r : CalRow) : Nat := r.center + r.tol

/-- Window membership under either setting of `WINDOW_EDGES` (R100). -/
def CalRow.holds (r : CalRow) (e : WindowEdges) (raw : RawSample) : Bool :=
  match e with
  | .inclusive => decide (winLo r ≤ raw.toNat) && decide (raw.toNat ≤ winHi r)
  | .exclusive => decide (winLo r < raw.toNat) && decide (raw.toNat < winHi r)

/-- `inwin(raw, s)` (R100); IDLE has no window. -/
def inwin (c : Config) (s : Symbol) (raw : RawSample) : Bool :=
  match c.cal s with
  | none => false
  | some r => CalRow.holds r c.edges raw

/-! ### Filter (42_debounce.md) -/

/-- `N = max(1, ceil(DEBOUNCE_MS * 1000 / TICK_US))` for a tick of `tick` microseconds, 527 on this hardware (`tickUs`); R123. The
machine takes `N` itself, as R123 allows; this is how a deployment finds it. -/
def debounceTicks (tick debounceMs : Nat) : Nat := max 1 ((debounceMs * 1000 + (tick - 1)) / tick)

/-! ### Scheduler (43_dispatch.md) -/

/-- `POST(v) = (if v = 1 then R else 0) + G` (R158). -/
def post (c : Config) (vol : Bool) : Nat :=
  (if vol then c.repeatWait.toNat else 0) + c.resumeGap.toNat

/-- `popcount7(v)`, the number of 1 bits in `v[6:0]` (R10). -/
def popcount7 (v : CmdCode) : Nat :=
  ((List.range 7).map fun i => (v.getLsbD i).toNat).sum

/-- `FRAMELEN(c) = 65 + 2*popcount7(ADDR) + 2*popcount7(c)` (R198). -/
def frameLen (addr c : CmdCode) : Nat := 65 + 2 * popcount7 addr + 2 * popcount7 c

/-- `TXLEN(c) = 3 * FRAMELEN(c)` (R198). -/
def txLen (addr c : CmdCode) : Nat := frameRepeats * frameLen addr c

/-! ### Encoder (44_encoder.md) -/

/-- One segment of a waveform: its ESEL type (R81), and the bit value it belongs to (R195; `false` outside a bit). -/
structure Seg where
  kind : BitVec 3
  bit : Bool
deriving DecidableEq, Repr

/-- The header: bus-reset pulse and AGC pair (R197). -/
def headerSegs : List Seg := [⟨0b000, false⟩, ⟨0b001, false⟩, ⟨0b010, false⟩]

/-- `BITSEGS(b)`: mark and space, and the extension only for a 1 (R196). -/
def bitSegs (b : Bool) : List Seg :=
  if b then [⟨0b011, b⟩, ⟨0b100, b⟩, ⟨0b101, b⟩] else [⟨0b011, b⟩, ⟨0b100, b⟩]

/-- `FIELD7(v)`: seven bits, least significant first (R196). -/
def field7Segs (v : CmdCode) : List Seg :=
  (List.range 7).flatMap fun i => bitSegs (v.getLsbD i)

/-- `FRAMESEGS(c)`: header, start bit, address, command, two stop bits (R197). -/
def frameSegs (addr c : CmdCode) : List Seg :=
  headerSegs ++ bitSegs true ++ field7Segs addr ++ field7Segs c ++ bitSegs true ++ bitSegs true

/-- The segments of the whole transmission: `FRAME_REPEATS` frames with no gap (R197). -/
def txSegs (addr c : CmdCode) : List Seg :=
  (List.replicate frameRepeats (frameSegs addr c)).flatten

end Sys2Proof.Machine
end

