-- ==== Sys2Proof/Machine/Flags.lean ====
section
/-! DEFINITION. The block has no status flags and no condition codes (R41). What it has are bit-level conditions: the bits of the
selector words (R76 to R80), `edge` (R160) and `busy` (R25), each a combinational function of the state. -/

namespace Sys2Proof.Machine

/-- `h`: bit i is `inwin(raw_sample, i + 1)` (R76). -/
def cselWord (s : State) : BitVec 6 :=
  BitVec.ofNat 6 (bitsVal
    [inwin s.cfg .volUp s.loc.raw, inwin s.cfg .volDown s.loc.raw, inwin s.cfg .source s.loc.raw,
     inwin s.cfg .seekFwd s.loc.raw, inwin s.cfg .seekBack s.loc.raw, inwin s.cfg .extra s.loc.raw])

/-- `eq = (s = stable)` (R77). -/
def State.eqBit (s : State) : Bool := decide (s.loc.sym = s.stable)

/-- `thr = (dcount + 1 >= N)`, on integers (R77, R85). -/
def State.thrBit (s : State) : Bool := decide (s.dcount.toNat + 1 ≥ s.cfg.n)

/-- `{eq, thr}` (R77). -/
def dselWord (s : State) : BitVec 2 := BitVec.ofNat 2 (bitsVal [s.thrBit, s.eqBit])

/-- `isrst = (stable = RESET_SYM)` (R78). -/
def State.isRst (s : State) : Bool := decide (s.stable = s.cfg.resetSym)

/-- `{os, isrst, armed}` (R78). -/
def oselWord (s : State) : BitVec 3 := BitVec.ofNat 3 (bitsVal [s.armed, s.isRst, s.cfg.oneshot])

/-- `last` (R79): in TX, whether the current waveform tick is the last; in WAIT, whether no wait tick remains. -/
def State.lastBit (s : State) : Bool :=
  if s.mode = modeTx then decide (s.txPos.toNat + 1 = txLen s.cfg.addr s.txCmd)
  else if s.mode = modeWait then decide (s.waitLeft = 0)
  else false

/-- `post0` (R79): in TX, whether no wait follows; otherwise 0. -/
def State.post0Bit (s : State) : Bool :=
  if s.mode = modeTx then decide (post s.cfg s.txVol = 0) else false

/-- `{post0, last, mode}` (R79). -/
def sselWord (s : State) : BitVec 4 :=
  BitVec.ofNat 4 (bitsVal [s.mode.getLsbD 0, s.mode.getLsbD 1, s.lastBit, s.post0Bit])

/-- `edge = (cur != prev)`, with `cur = fout` (R160). -/
def State.edge (s : State) : Bool := decide (s.fout ≠ s.prev)

/-- `{hs, edge, cur}` (R80). -/
def pselWord (s : State) : BitVec 5 :=
  BitVec.ofNat 5 (bitsVal [s.fout.getLsbD 0, s.fout.getLsbD 1, s.fout.getLsbD 2, s.edge, s.cfg.heldSame])

/-! ### The output ports (R20, R24, R25) -/

/-- `pin_out` (R24). -/
def State.pinOut (s : State) : Bool := s.pin

/-- `stable_out` (R25). -/
def State.stableOut (s : State) : SymCode := s.stable

/-- `fout_out` (R25). -/
def State.foutOut (s : State) : SymCode := s.fout

/-- `busy` (R25): 1 exactly when `mode != READY`. -/
def State.busy (s : State) : Bool := decide (s.mode ≠ modeReady)

/-- `cmd_strobe` (R25, R39). -/
def State.cmdStrobeOut (s : State) : Bool := s.cmdStrobe

/-- `cmd_code` (R25, R39). -/
def State.cmdCodeOut (s : State) : CmdCode := s.cmdCode

end Sys2Proof.Machine
end

