-- ==== Sys2Proof/Machine/Ops.lean ====
section
/-! DEFINITION. The register writes of the stages, the emission action (R170), and the sequencing of stages (R11, R150). The block
has no memory (R50), no exception and no return from one (R231, R233): a stage either goes on or raises a fault (R220). -/

namespace Sys2Proof.Machine

/-- The outcome of an operation, a stage or a step (R220). -/
abbrev Result := Host.Outcome State Fault Refusal

/-- Run `f` on the state `o` leaves; a fault or a refusal ends the step there (R228 (b)). -/
def andThen (o : Result) (f : State → Result) : Result :=
  match o with
  | .next s => f s
  | .fault r => .fault r
  | .refused r => .refused r

/-! ### Tick-local values -/

/-- The start of a tick: the sample is presented (R23), every other tick-local value is fresh. -/
def State.latch (s : State) (raw : RawSample) : State := { s with loc := { TickLocal.idle with raw := raw } }

/-- The end of a tick: no tick-local value outlives it (R11). -/
def State.clearLoc (s : State) : State := { s with loc := TickLocal.idle }

/-- `s <- c`, the classifier's result (R102 to R108). -/
def State.setSym (s : State) (c : SymCode) : State := { s with loc := { s.loc with sym := c } }

/-- `eval <- b` (R152 to R157). -/
def State.setEval (s : State) (b : Bool) : State := { s with loc := { s.loc with eval := b } }

/-- The bit value whose segments follow (R195). -/
def State.setEncBit (s : State) (b : Bool) : State := { s with loc := { s.loc with encBit := b } }

/-- Append the segment `(level, ticks)` to the waveform: the level repeated for its ticks (44_encoder.md, `WAVE`). -/
def State.appendSeg (s : State) (level : Bool) (ticks : Nat) : State :=
  { s with loc := { s.loc with wave := s.loc.wave ++ List.replicate ticks level } }

/-! ### Filter registers -/

/-- `dcount <- n` (R120, R121). -/
def State.setDcount (s : State) (n : Nat) : State := { s with dcount := BitVec.ofNat 16 n }

/-- `stable <- c; dcount <- 0` (R122). -/
def State.commit (s : State) (c : SymCode) : State := { s with stable := c, dcount := 0 }

/-- `fout <- c` (R140 to R143). -/
def State.setFout (s : State) (c : SymCode) : State := { s with fout := c }

/-- `armed <- b` (R141, R142). -/
def State.setArmed (s : State) (b : Bool) : State := { s with armed := b }

/-! ### Scheduler and dispatcher registers -/

/-- `mode <- m` (R154, R155, R157). -/
def State.setMode (s : State) (m : ModeCode) : State := { s with mode := m }

/-- `tx_pos <- n` (R153). -/
def State.setTxPos (s : State) (n : Nat) : State := { s with txPos := BitVec.ofNat 9 n }

/-- `wait_left <- n` (R155, R156). -/
def State.setWaitLeft (s : State) (n : Nat) : State := { s with waitLeft := BitVec.ofNat 16 n }

/-- `prev <- c` (R161). -/
def State.setPrev (s : State) (c : SymCode) : State := { s with prev := c }

/-- `cmd_strobe <- 0` (R150 stage 5). -/
def State.clearStrobe (s : State) : State := { s with cmdStrobe := false }

/-- `emit(c, v)` (R170). -/
def State.emit (s : State) (c : CmdCode) (v : Bool) : State :=
  { s with txCmd := c, txPos := 0, txVol := v, mode := modeTx, cmdStrobe := true, cmdCode := c }

/-! ### Pin and reset -/

/-- `pin <- b` (R199). -/
def State.setPin (s : State) (b : Bool) : State := { s with pin := b }

/-- Every register to its reset value (R250); the configuration is not reloaded (R251), the pending input is not read. -/
def State.resetRegs (s : State) : State :=
  { State.resetOf s.cfg with input := s.input, slot := s.slot }

end Sys2Proof.Machine
end

