-- ==== Sys2Proof/Machine/Classifier.lean ====
section
/-! DEFINITION. The classifier operations, CSEL (41_classifier.md rules R102 to R108): each writes this tick's symbol `s`. -/

namespace Sys2Proof.Machine

/-- CLS_VOLUP (R102): `s <- VOL_UP`. -/
def execClsVolup (s : State) : Result := .next (s.setSym Symbol.volUp.code)

/-- CLS_VOLDN (R103): `s <- VOL_DOWN`. -/
def execClsVoldn (s : State) : Result := .next (s.setSym Symbol.volDown.code)

/-- CLS_SOURCE (R104): `s <- SOURCE`. -/
def execClsSource (s : State) : Result := .next (s.setSym Symbol.source.code)

/-- CLS_SEEKF (R105): `s <- SEEK_FWD`. -/
def execClsSeekf (s : State) : Result := .next (s.setSym Symbol.seekFwd.code)

/-- CLS_SEEKB (R106): `s <- SEEK_BACK`. -/
def execClsSeekb (s : State) : Result := .next (s.setSym Symbol.seekBack.code)

/-- CLS_EXTRA (R107): `s <- EXTRA`. -/
def execClsExtra (s : State) : Result := .next (s.setSym Symbol.extra.code)

/-- CLS_IDLE (R108): `s <- IDLE`. -/
def execClsIdle (s : State) : Result := .next (s.setSym Symbol.idle.code)

end Sys2Proof.Machine
end

