-- ==== Sys2Proof/Machine/Dispatcher.lean ====
section
/-! DEFINITION. The dispatcher operations, PSEL (43_dispatch.md rules R171 to R183). Each emits its command or nothing; the
recording of `prev` (R161) is the stage's, after the operation (log entry 11). -/

namespace Sys2Proof.Machine

/-- DSP_IDLE (R171): no emission. -/
def execDspIdle (s : State) : Result := .next s

/-- DSP_VOLUP (R172): `emit(CMD_VOLUP, 1)`. -/
def execDspVolup (s : State) : Result := .next (s.emit s.cfg.cmdVolup true)

/-- DSP_VOLDN (R173): `emit(CMD_VOLDN, 1)`. -/
def execDspVoldn (s : State) : Result := .next (s.emit s.cfg.cmdVoldn true)

/-- DSP_SOURCE_EDGE (R174): `emit(CMD_SOURCE, 0)`. -/
def execDspSourceEdge (s : State) : Result := .next (s.emit s.cfg.cmdSource false)

/-- DSP_SOURCE_HOLD (R175): no emission. -/
def execDspSourceHold (s : State) : Result := .next s

/-- DSP_SEEKF_FIRST (R176): `emit(CMD_SEEKF_FIRST, 0)`. -/
def execDspSeekfFirst (s : State) : Result := .next (s.emit s.cfg.cmdSeekfFirst false)

/-- DSP_SEEKF_HELD (R177): `emit(CMD_SEEKF_HELD, 0)`. -/
def execDspSeekfHeld (s : State) : Result := .next (s.emit s.cfg.cmdSeekfHeld false)

/-- DSP_SEEKF_HELD_SAME (R178): `emit(CMD_SEEKF_FIRST, 0)`. -/
def execDspSeekfHeldSame (s : State) : Result := .next (s.emit s.cfg.cmdSeekfFirst false)

/-- DSP_SEEKB_FIRST (R179): `emit(CMD_SEEKB_FIRST, 0)`. -/
def execDspSeekbFirst (s : State) : Result := .next (s.emit s.cfg.cmdSeekbFirst false)

/-- DSP_SEEKB_HELD (R180): `emit(CMD_SEEKB_HELD, 0)`. -/
def execDspSeekbHeld (s : State) : Result := .next (s.emit s.cfg.cmdSeekbHeld false)

/-- DSP_SEEKB_HELD_SAME (R181): `emit(CMD_SEEKB_FIRST, 0)`. -/
def execDspSeekbHeldSame (s : State) : Result := .next (s.emit s.cfg.cmdSeekbFirst false)

/-- DSP_EXTRA_EDGE (R182): `emit(CMD_EXTRA, 0)`. -/
def execDspExtraEdge (s : State) : Result := .next (s.emit s.cfg.cmdExtra false)

/-- DSP_EXTRA_HOLD (R183): no emission. -/
def execDspExtraHold (s : State) : Result := .next s

end Sys2Proof.Machine
end

