-- ==== Sys2Proof/Machine/Encoder.lean ====
section
/-! DEFINITION. The segment operations, ESEL (44_encoder.md rules R190 to R195): each appends its `(level, ticks)` to the waveform
under construction. Level 1 is high, with no inversion (R205; log entry 12). -/

namespace Sys2Proof.Machine

/-- ENC_BUSRST (R190): segment `(1, 1)`. -/
def execEncBusrst (s : State) : Result := .next (s.appendSeg true 1)

/-- ENC_AGC_LOW (R191): segment `(0, 16)`. -/
def execEncAgcLow (s : State) : Result := .next (s.appendSeg false 16)

/-- ENC_AGC_HIGH (R192): segment `(1, 8)`. -/
def execEncAgcHigh (s : State) : Result := .next (s.appendSeg true 8)

/-- ENC_MARK (R193): segment `(0, 1)`. -/
def execEncMark (s : State) : Result := .next (s.appendSeg false 1)

/-- ENC_SPACE (R194): segment `(1, 1)`. -/
def execEncSpace (s : State) : Result := .next (s.appendSeg true 1)

/-- ENC_EXT (R195): `if b = 1` then segment `(1, 2)`, with `b` the bit value being encoded. -/
def execEncExt (s : State) : Result := .next (if s.loc.encBit = true then s.appendSeg true 2 else s)

end Sys2Proof.Machine
end

