-- ==== Sys2Proof/Machine/Filter.lean ====
section
/-! DEFINITION. The filter step, DSEL (42_debounce.md rules R120 to R122), and the output stage, OSEL (rules R140 to R143). Each
operation keeps the guard of its pseudocode, so that it does nothing in a state that does not select it (log entry 10). -/

namespace Sys2Proof.Machine

/-- DB_MATCH (R120): `if s = stable then dcount <- 0`. -/
def execDbMatch (s : State) : Result :=
  .next (if s.loc.sym = s.stable then s.setDcount 0 else s)

/-- DB_COUNT (R121): `if s != stable and dcount + 1 < N then dcount <- dcount + 1`. -/
def execDbCount (s : State) : Result :=
  .next (if s.loc.sym ≠ s.stable ∧ s.dcount.toNat + 1 < s.cfg.n then s.setDcount (s.dcount.toNat + 1) else s)

/-- DB_COMMIT (R122): `if s != stable and dcount + 1 >= N then stable <- s; dcount <- 0`. -/
def execDbCommit (s : State) : Result :=
  .next (if s.loc.sym ≠ s.stable ∧ s.dcount.toNat + 1 ≥ s.cfg.n then s.commit s.loc.sym else s)

/-- OUT_CONT (R140): `if ONESHOT = 0 then fout <- stable`. -/
def execOutCont (s : State) : Result :=
  .next (if s.cfg.oneshot = false then s.setFout s.stable else s)

/-- OUT_REARM (R141): `if ONESHOT = 1 and stable = RESET_SYM then fout <- stable; armed <- 1`. -/
def execOutRearm (s : State) : Result :=
  .next (if s.cfg.oneshot = true ∧ s.stable = s.cfg.resetSym then (s.setFout s.stable).setArmed true else s)

/-- OUT_SHOT (R142): `if ONESHOT = 1 and stable != RESET_SYM and armed = 1 then fout <- stable; armed <- 0`. -/
def execOutShot (s : State) : Result :=
  .next (if s.cfg.oneshot = true ∧ s.stable ≠ s.cfg.resetSym ∧ s.armed = true
    then (s.setFout s.stable).setArmed false else s)

/-- OUT_SUPP (R143): `if ONESHOT = 1 and stable != RESET_SYM and armed = 0 then fout <- RESET_SYM`. -/
def execOutSupp (s : State) : Result :=
  .next (if s.cfg.oneshot = true ∧ s.stable ≠ s.cfg.resetSym ∧ s.armed = false
    then s.setFout s.cfg.resetSym else s)

end Sys2Proof.Machine
end

