-- ==== Sys2Proof/Machine/Scheduler.lean ====
section
/-! DEFINITION. The scheduler operations, SSEL (43_dispatch.md rules R152 to R157). Each keeps the guard of its pseudocode (log entry 10). -/

namespace Sys2Proof.Machine

/-- SCH_EVAL (R152): `if mode = READY then eval <- 1`. -/
def execSchEval (s : State) : Result :=
  .next (if s.mode = modeReady then s.setEval true else s)

/-- SCH_TX_ADV (R153): `if mode = TX and tx_pos + 1 < TXLEN(tx_cmd) then tx_pos <- tx_pos + 1; eval <- 0`. -/
def execSchTxAdv (s : State) : Result :=
  .next (if s.mode = modeTx ∧ s.txPos.toNat + 1 < txLen s.cfg.addr s.txCmd
    then (s.setTxPos (s.txPos.toNat + 1)).setEval false else s)

/-- SCH_TX_DONE_EVAL (R154): `if mode = TX and tx_pos + 1 = TXLEN(tx_cmd) and POST(tx_vol) = 0 then mode <- READY; eval <- 1`. -/
def execSchTxDoneEval (s : State) : Result :=
  .next (if s.mode = modeTx ∧ s.txPos.toNat + 1 = txLen s.cfg.addr s.txCmd ∧ post s.cfg s.txVol = 0
    then (s.setMode modeReady).setEval true else s)

/-- SCH_TX_DONE_WAIT (R155): `if mode = TX and tx_pos + 1 = TXLEN(tx_cmd) and POST(tx_vol) > 0 then mode <- WAIT;
wait_left <- POST(tx_vol) - 1; eval <- 0`. -/
def execSchTxDoneWait (s : State) : Result :=
  .next (if s.mode = modeTx ∧ s.txPos.toNat + 1 = txLen s.cfg.addr s.txCmd ∧ post s.cfg s.txVol > 0
    then ((s.setMode modeWait).setWaitLeft (post s.cfg s.txVol - 1)).setEval false else s)

/-- SCH_WAIT_DEC (R156): `if mode = WAIT and wait_left > 0 then wait_left <- wait_left - 1; eval <- 0`. -/
def execSchWaitDec (s : State) : Result :=
  .next (if s.mode = modeWait ∧ s.waitLeft.toNat > 0
    then (s.setWaitLeft (s.waitLeft.toNat - 1)).setEval false else s)

/-- SCH_WAIT_DONE (R157): `if mode = WAIT and wait_left = 0 then mode <- READY; eval <- 1`. -/
def execSchWaitDone (s : State) : Result :=
  .next (if s.mode = modeWait ∧ s.waitLeft = 0 then (s.setMode modeReady).setEval true else s)

end Sys2Proof.Machine
end

