-- ==== Sys2Proof/Machine/Tick.lean ====
section
/-! DEFINITION. The two operations a stimulus word selects: OP_TICK, the fixed order of the stages of one tick (43_dispatch.md
rule R150), and OP_RESET (70_reset_and_hazards.md rule R250). Each stage builds its selector word, decodes it, and runs the
operation it selects; each stage sees the writes of the stages before it (R11). -/

namespace Sys2Proof.Machine

/-- Run one selected stage operation (R76 to R81). OP_RESET and OP_TICK are selected by a stimulus word and by no stage. -/
def stageOp (i : Instr) (s : State) : Result :=
  match i with
  | .opReset => .refused .notAStageOperation
  | .opTick _ => .refused .notAStageOperation
  | .clsVolup => execClsVolup s
  | .clsVoldn => execClsVoldn s
  | .clsSource => execClsSource s
  | .clsSeekf => execClsSeekf s
  | .clsSeekb => execClsSeekb s
  | .clsExtra => execClsExtra s
  | .clsIdle => execClsIdle s
  | .dbMatch => execDbMatch s
  | .dbCount => execDbCount s
  | .dbCommit => execDbCommit s
  | .outCont => execOutCont s
  | .outRearm => execOutRearm s
  | .outShot => execOutShot s
  | .outSupp => execOutSupp s
  | .schEval => execSchEval s
  | .schTxAdv => execSchTxAdv s
  | .schTxDoneEval => execSchTxDoneEval s
  | .schTxDoneWait => execSchTxDoneWait s
  | .schWaitDec => execSchWaitDec s
  | .schWaitDone => execSchWaitDone s
  | .dspIdle => execDspIdle s
  | .dspVolup => execDspVolup s
  | .dspVoldn => execDspVoldn s
  | .dspSourceEdge => execDspSourceEdge s
  | .dspSourceHold => execDspSourceHold s
  | .dspSeekfFirst => execDspSeekfFirst s
  | .dspSeekfHeld => execDspSeekfHeld s
  | .dspSeekfHeldSame => execDspSeekfHeldSame s
  | .dspSeekbFirst => execDspSeekbFirst s
  | .dspSeekbHeld => execDspSeekbHeld s
  | .dspSeekbHeldSame => execDspSeekbHeldSame s
  | .dspExtraEdge => execDspExtraEdge s
  | .dspExtraHold => execDspExtraHold s
  | .encBusrst => execEncBusrst s
  | .encAgcLow => execEncAgcLow s
  | .encAgcHigh => execEncAgcHigh s
  | .encMark => execEncMark s
  | .encSpace => execEncSpace s
  | .encExt => execEncExt s

/-- Stage 0, guard (R150, R221). -/
def guardStage (s : State) : Result := if s.hasReset then .next s else .fault .notReset

/-- Stage 1, scheduler: the one SSEL operation that matches; mode 3 is `Fault(ReservedMode)` (R150, R222). -/
def schedStage (s : State) : Result :=
  match decodeSsel (sselWord s) with
  | none => .fault .reservedMode
  | some i => stageOp i s

/-- Stage 2, classifier: the one CSEL operation that matches (R101, R150). -/
def classStage (s : State) : Result := stageOp (decodeCsel (cselWord s)) s

/-- Stage 3, filter step: the one DSEL operation that matches (R150). -/
def filterStage (s : State) : Result := stageOp (decodeDsel (dselWord s)) s

/-- Stage 4, output stage: the one OSEL operation that matches, on the `stable` the filter step left (R78, R150). -/
def outputStage (s : State) : Result := stageOp (decodeOsel (oselWord s)) s

/-- The evaluation (R160, R161): the one PSEL operation that matches, then `prev <- cur` with `cur` the filter output read before
it; symbol code 7 is `Fault(ReservedSymbol)` and runs no operation (R184). -/
def evaluate (s : State) : Result :=
  match decodePsel (pselWord s) with
  | none => .fault .reservedSymbol
  | some i => andThen (stageOp i s) fun t => .next (t.setPrev s.fout)

/-- Stage 5, dispatcher: `cmd_strobe <- 0`, then, if `eval`, the evaluation (R150). -/
def dispatchStage (s : State) : Result :=
  if s.loc.eval then evaluate s.clearStrobe else .next s.clearStrobe

/-- Run the segment operation of one segment; a type 6 or 7 is `Fault(ReservedSegment)` (R223). -/
def playSeg (g : Seg) (s : State) : Result :=
  match decodeEsel g.kind with
  | none => .fault .reservedSegment
  | some i => stageOp i (s.setEncBit g.bit)

/-- Run the segment operations of a segment list, in list order (`WAVE`, 44_encoder.md). -/
def playSegs : List Seg → State → Result
  | [], s => .next s
  | g :: gs, s => andThen (playSeg g s) (playSegs gs)

/-- Drive the level of waveform tick `tx_pos` (R199). Past the end of the waveform the level is a free value (log entry 6). -/
def drivePin (s : State) : Result :=
  .next (s.setPin (s.loc.wave[s.txPos.toNat]?.getD (Config.levelPastEnd s.cfg.addr s.txCmd s.txPos)))

/-- Stage 6, pin (R199): in TX, build the waveform of `tx_cmd` from its segments and drive its tick `tx_pos`; otherwise high. -/
def pinStage (s : State) : Result :=
  if s.mode = modeTx then andThen (playSegs (txSegs s.cfg.addr s.txCmd) s) drivePin
  else .next (s.setPin true)

/-- OP_TICK (R150): the stages in their fixed order. -/
def execOpTick (raw : RawSample) (s : State) : Result :=
  andThen (guardStage (s.latch raw)) fun s0 =>
  andThen (schedStage s0) fun s1 =>
  andThen (classStage s1) fun s2 =>
  andThen (filterStage s2) fun s3 =>
  andThen (outputStage s3) fun s4 =>
  andThen (dispatchStage s4) fun s5 =>
  andThen (pinStage s5) fun s6 =>
  .next s6.clearLoc

/-- OP_RESET (R250): every register to its reset value; no stage runs. -/
def execOpReset (s : State) : Result := .next s.resetRegs

end Sys2Proof.Machine
end

