-- ==== Sys2Proof/Machine/Dispatch.lean ====
section
/-! DEFINITION. One arm for each operation of the opcode table, in table order. -/

namespace Sys2Proof.Machine

def exec (i : Instr) (s : State) : Host.Outcome State Fault Refusal :=
  match i with
  | .opReset => Sys2Proof.Machine.execOpReset s
  | .opTick raw => Sys2Proof.Machine.execOpTick raw s
  | .clsVolup => Sys2Proof.Machine.execClsVolup s
  | .clsVoldn => Sys2Proof.Machine.execClsVoldn s
  | .clsSource => Sys2Proof.Machine.execClsSource s
  | .clsSeekf => Sys2Proof.Machine.execClsSeekf s
  | .clsSeekb => Sys2Proof.Machine.execClsSeekb s
  | .clsExtra => Sys2Proof.Machine.execClsExtra s
  | .clsIdle => Sys2Proof.Machine.execClsIdle s
  | .dbMatch => Sys2Proof.Machine.execDbMatch s
  | .dbCount => Sys2Proof.Machine.execDbCount s
  | .dbCommit => Sys2Proof.Machine.execDbCommit s
  | .outCont => Sys2Proof.Machine.execOutCont s
  | .outRearm => Sys2Proof.Machine.execOutRearm s
  | .outShot => Sys2Proof.Machine.execOutShot s
  | .outSupp => Sys2Proof.Machine.execOutSupp s
  | .schEval => Sys2Proof.Machine.execSchEval s
  | .schTxAdv => Sys2Proof.Machine.execSchTxAdv s
  | .schTxDoneEval => Sys2Proof.Machine.execSchTxDoneEval s
  | .schTxDoneWait => Sys2Proof.Machine.execSchTxDoneWait s
  | .schWaitDec => Sys2Proof.Machine.execSchWaitDec s
  | .schWaitDone => Sys2Proof.Machine.execSchWaitDone s
  | .dspIdle => Sys2Proof.Machine.execDspIdle s
  | .dspVolup => Sys2Proof.Machine.execDspVolup s
  | .dspVoldn => Sys2Proof.Machine.execDspVoldn s
  | .dspSourceEdge => Sys2Proof.Machine.execDspSourceEdge s
  | .dspSourceHold => Sys2Proof.Machine.execDspSourceHold s
  | .dspSeekfFirst => Sys2Proof.Machine.execDspSeekfFirst s
  | .dspSeekfHeld => Sys2Proof.Machine.execDspSeekfHeld s
  | .dspSeekfHeldSame => Sys2Proof.Machine.execDspSeekfHeldSame s
  | .dspSeekbFirst => Sys2Proof.Machine.execDspSeekbFirst s
  | .dspSeekbHeld => Sys2Proof.Machine.execDspSeekbHeld s
  | .dspSeekbHeldSame => Sys2Proof.Machine.execDspSeekbHeldSame s
  | .dspExtraEdge => Sys2Proof.Machine.execDspExtraEdge s
  | .dspExtraHold => Sys2Proof.Machine.execDspExtraHold s
  | .encBusrst => Sys2Proof.Machine.execEncBusrst s
  | .encAgcLow => Sys2Proof.Machine.execEncAgcLow s
  | .encAgcHigh => Sys2Proof.Machine.execEncAgcHigh s
  | .encMark => Sys2Proof.Machine.execEncMark s
  | .encSpace => Sys2Proof.Machine.execEncSpace s
  | .encExt => Sys2Proof.Machine.execEncExt s

end Sys2Proof.Machine
end

