-- ==== Sys2Proof/Machine/Step.lean ====
section
/-! DEFINITION. One step: one tick event (10_state.md rules R21, R22). -/

namespace Sys2Proof.Machine

/-- The stimulus still to come (R74). -/
def State.withInput (s : State) (ws : List StimWord) : State := { s with input := ws }

/-- Empty the host's probe slot (log entry 5). -/
def State.dropSlot (s : State) : State := { s with slot := none }

/-- One step. An illegal configuration runs nothing (R8; log entry 9). A tick event takes the next stimulus word and runs the operation it
spells; a reserved word is refused (R75). With no word pending there is no tick event, and the whole state, the pin level
among it, is held (R21, R227). The probe slot, `none` in every run of the block, runs its one operation alone (log entry 5). -/
def step (s : State) : Host.Outcome State Fault Refusal :=
  if s.cfg.legal = false then .refused .illegalConfig
  else
    match s.slot with
    | some i => exec i s.dropSlot
    | none =>
      match s.input with
      | [] => .next s
      | w :: ws =>
        match decodeStim w with
        | none => .refused .reservedStimulus
        | some i => exec i (s.withInput ws)

/-- The host's placement of one table word (log entries 2, 4 and 5): a 16-bit word is the next stimulus word; a word of a selector format, which
the block never fetches, is decoded into the probe slot. -/
def State.withFetchWord (s : State) (nbits w : Nat) : State :=
  if nbits = 16 then { s with slot := none, input := BitVec.ofNat 16 w :: s.input }
  else { s with slot := decodeTableWord nbits w }

end Sys2Proof.Machine
end

