-- ==== Sys2Proof/Safety.lean ====
section
/-! DEFINITION. The terms claims are stated in: the classifier as one function (R101), the waveform as a list of levels (R190 to
R197), the command table (R73), the filter as a function of its own registers (R120 to R143), runs of several ticks, and the
invariant (R44). Each is written from its rule, not from the machine's stages, so that a claim can compare the two. -/

namespace Sys2Proof.Machine

/-! ### Classifier -/

/-- `classify(raw)`: the first symbol in priority order whose window holds the sample, else IDLE (R101). -/
def classify (c : Config) (raw : RawSample) : Symbol :=
  match [Symbol.volUp, .volDown, .source, .seekFwd, .seekBack, .extra].find? (fun y => inwin c y raw) with
  | some y => y
  | none => .idle

/-! ### Waveform -/

/-- `WAVE(BITSEGS(b))`: `0,1` or `0,1,1,1` (R196). -/
def bitWave (b : Bool) : List Bool := if b then [false, true, true, true] else [false, true]

/-- `WAVE(FIELD7(v))`: seven bits, least significant first (R196). -/
def fieldWave (v : CmdCode) : List Bool :=
  bitWave (v.getLsbD 0) ++ bitWave (v.getLsbD 1) ++ bitWave (v.getLsbD 2) ++ bitWave (v.getLsbD 3) ++
    bitWave (v.getLsbD 4) ++ bitWave (v.getLsbD 5) ++ bitWave (v.getLsbD 6)

/-- `FRAME(c)`: bus reset 1, AGC low 16, AGC high 8, start bit, address, command, two stop bits (R197). -/
def frameWave (addr c : CmdCode) : List Bool :=
  [true] ++ List.replicate 16 false ++ List.replicate 8 true ++ bitWave true ++ fieldWave addr ++ fieldWave c ++
    bitWave true ++ bitWave true

/-- `TXWAVE(c) = FRAME(c) ++ FRAME(c) ++ FRAME(c)` (R197). -/
def txWave (addr c : CmdCode) : List Bool := frameWave addr c ++ frameWave addr c ++ frameWave addr c

/-! ### Dispatcher -/

/-- Whether a tick taken in this state is an evaluation tick (R151: SCH_EVAL, SCH_TX_DONE_EVAL, SCH_WAIT_DONE). -/
def State.evaluates (s : State) : Bool :=
  decide (s.mode = modeReady)
    || (decide (s.mode = modeTx) && decide (s.txPos.toNat + 1 = txLen s.cfg.addr s.txCmd) && decide (post s.cfg s.txVol = 0))
    || (decide (s.mode = modeWait) && decide (s.waitLeft = 0))

/-- The command an evaluation sends, with its volume mark, when it reads `cur` and the last evaluation read `prev` (R73). -/
def commandFor (c : Config) (prev cur : SymCode) : Option (CmdCode × Bool) :=
  if cur = Symbol.volUp.code then some (c.cmdVolup, true)
  else if cur = Symbol.volDown.code then some (c.cmdVoldn, true)
  else if cur = Symbol.source.code then (if cur ≠ prev then some (c.cmdSource, false) else none)
  else if cur = Symbol.seekFwd.code then
    some (if cur ≠ prev then c.cmdSeekfFirst else if c.heldSame then c.cmdSeekfFirst else c.cmdSeekfHeld, false)
  else if cur = Symbol.seekBack.code then
    some (if cur ≠ prev then c.cmdSeekbFirst else if c.heldSame then c.cmdSeekbFirst else c.cmdSeekbHeld, false)
  else if cur = Symbol.extra.code then (if cur ≠ prev then some (c.cmdExtra, false) else none)
  else none

/-- The state right after `emit(c, v)` (R170), register by register. -/
def State.emitted (s : State) (c : CmdCode) (v : Bool) : State :=
  { s with txCmd := c, txPos := 0, txVol := v, mode := modeTx, cmdStrobe := true, cmdCode := c }

/-- The registers of the main-loop context (R235): scheduler, dispatcher and pin. -/
structure MainRegs where
  prev : SymCode
  mode : ModeCode
  txCmd : CmdCode
  txPos : BitVec 9
  txVol : Bool
  waitLeft : BitVec 16
  pin : Bool
  cmdStrobe : Bool
  cmdCode : CmdCode
deriving DecidableEq, Repr

/-- The main-loop registers of a state. -/
def State.mainRegs (s : State) : MainRegs :=
  ⟨s.prev, s.mode, s.txCmd, s.txPos, s.txVol, s.waitLeft, s.pin, s.cmdStrobe, s.cmdCode⟩

/-! ### Filter -/

/-- The filter's own registers (R53). -/
structure FilterRegs where
  stable : SymCode
  dcount : BitVec 16
  armed : Bool
  fout : SymCode
deriving DecidableEq, Repr

/-- The filter registers of a state. -/
def State.filter (s : State) : FilterRegs := ⟨s.stable, s.dcount, s.armed, s.fout⟩

/-- The filter step on the symbol code `y` of this tick (R120, R121, R122). -/
def filterStep (c : Config) (f : FilterRegs) (y : SymCode) : FilterRegs :=
  if y = f.stable then { f with dcount := 0 }
  else if f.dcount.toNat + 1 < c.n then { f with dcount := f.dcount + 1 }
  else { f with stable := y, dcount := 0 }

/-- The output stage (R140, R141, R142, R143). -/
def filterOutput (c : Config) (f : FilterRegs) : FilterRegs :=
  if c.oneshot = false then { f with fout := f.stable }
  else if f.stable = c.resetSym then { f with fout := f.stable, armed := true }
  else if f.armed then { f with fout := f.stable, armed := false }
  else { f with fout := c.resetSym }

/-- What one OP_TICK does to the filter registers: a function of them and of the sample alone (R53, R124). -/
def filterTick (c : Config) (f : FilterRegs) (raw : RawSample) : FilterRegs :=
  filterOutput c (filterStep c f (classify c raw).code)

/-! ### Runs -/

/-- The stimulus word of `TICK raw` (R87). -/
def tickWord (raw : RawSample) : StimWord := raw.setWidth 16

/-- A statement of a stimulus program (R87). -/
inductive StimStmt
  | reset
  | tick (raw : RawSample)
  | ticks (raw : RawSample) (n : Nat)
  | hold (button : Symbol) (n : Nat)
  | idle (n : Nat)
deriving DecidableEq, Repr

/-- The stimulus words a statement expands to (R87), with `rawIdle` the program's value in no window. `HOLD` is written for a
button; IDLE has no center and expands to nothing. -/
def StimStmt.words (c : Config) (rawIdle : RawSample) : StimStmt → List StimWord
  | .reset => [0x8000]
  | .tick raw => [tickWord raw]
  | .ticks raw n => List.replicate n (tickWord raw)
  | .hold button n =>
    match c.cal button with
    | none => []
    | some r => List.replicate n (tickWord (BitVec.ofNat 10 r.center))
  | .idle n => List.replicate n (tickWord rawIdle)

/-- `k` steps, stopping at the first fault or refusal. -/
def runSteps : Nat → State → Result
  | 0, s => .next s
  | k + 1, s => andThen (step s) (runSteps k)

/-- The pin stage said in one line (R199): the level of waveform tick `tx_pos` in TX (free past its end, log entry 6), high
otherwise. -/
def drive (s : State) : State :=
  { s with pin := if s.mode = modeTx then
      (txWave s.cfg.addr s.txCmd)[s.txPos.toNat]?.getD (Config.levelPastEnd s.cfg.addr s.txCmd s.txPos) else true }

/-- The invariant between ticks: rule R44, the pin level of R199 in a transmission, a legal configuration (R8), and no tick-local
value and no probe left over. -/
structure State.Inv (s : State) : Prop where
  legal : s.cfg.legal = true
  hasReset : s.hasReset = true
  slot : s.slot = none
  loc : s.loc = TickLocal.idle
  stable_le : s.stable.toNat ≤ 6
  fout_le : s.fout.toNat ≤ 6
  prev_le : s.prev.toNat ≤ 6
  mode_le : s.mode.toNat ≤ 2
  dcount_lt : s.dcount.toNat ≤ s.cfg.n - 1
  txPos_lt : s.mode = modeTx → s.txPos.toNat < txLen s.cfg.addr s.txCmd
  waitLeft_le : s.mode = modeWait → s.waitLeft.toNat ≤ s.cfg.repeatWait.toNat + s.cfg.resumeGap.toNat - 1
  continuous : s.cfg.oneshot = false → s.fout = s.stable ∧ s.armed = true
  pin_idle : s.mode ≠ modeTx → s.pin = true
  pin_tx : s.mode = modeTx → (txWave s.cfg.addr s.txCmd)[s.txPos.toNat]? = some s.pin

end Sys2Proof.Machine
end

