-- ==== Sys2Proof/Certificates/Slice0/Obligations.lean ====
section
/-! DEFINITION. The statements for the provers. Each says which rule of spec/ it formalises; `Safety.lean` holds the terms they use. -/

open Sys2Proof Sys2Proof.Machine

/-! ### Encoding -/

/-- 30_encoding.md section 2: a row selects its operation when `(word & mask) = match`. For every word of every format the decoder
answers an operation exactly when that operation's row selects the word, and OP_TICK's operand is bits 9:0. -/
def Obligations.DecoderAgreesWithOpcodeTable : Prop :=
  ∀ (w : OpWord) (i : Instr),
    decode w = some i ↔ i.row.selects w = true ∧ ∀ raw : RawSample, i = .opTick raw → raw.toNat = w.bits % 1024

/-- Decode and encode agree on every operation, with the raw sample of OP_TICK at every value; and an encoded word decodes to
one operation only. -/
def Obligations.DecodeOfEncodeIsIdentity : Prop :=
  ∀ i j : Instr, decode (encode i) = some i ∧ (encode i = encode j → i = j)

/-- R82: how many rows of the table select a word: one, or none exactly for the reserved words. No word has two rows. -/
def Obligations.EveryWordHasOneRowOrIsReserved : Prop :=
  ∀ w : OpWord, (opcodeTable.filter fun r => r.selects w).length =
    match w with
    | .stim v => if v.getLsbD 15 = true ∨ v.extractLsb' 10 5 = 0 then 1 else 0
    | .csel _ => 1
    | .dsel _ => 1
    | .osel _ => 1
    | .ssel v => if v.toNat % 4 = 3 then 0 else 1
    | .psel v => if v.toNat % 8 = 7 then 0 else 1
    | .esel v => if v.toNat ≤ 5 then 1 else 0

/-- R75: the decode of every one of the 65536 stimulus words, and the refusal of the reserved ones. -/
def Obligations.StimulusWordDecoding : Prop :=
  ∀ w : StimWord,
    (w.getLsbD 15 = true → decodeStim w = some .opReset) ∧
    (w.getLsbD 15 = false → w.extractLsb' 10 5 = 0 → decodeStim w = some (.opTick (w.extractLsb' 0 10))) ∧
    (w.getLsbD 15 = false → w.extractLsb' 10 5 ≠ 0 →
      decodeStim w = none ∧
      ∀ (s : State) (ws : List StimWord), s.cfg.legal = true → s.slot = none → s.input = w :: ws →
        step s = .refused .reservedStimulus)

/-- Words written out from the tables of R74 to R81 decode to the operation they stand for. -/
def Obligations.WrittenWordsDecode : Prop :=
  decode (.stim 0x8000) = some .opReset ∧
  decode (.stim 0x03E8) = some (.opTick 1000) ∧
  decode (.csel 0b000010) = some .clsVoldn ∧
  decode (.dsel 0b01) = some .dbCommit ∧
  decode (.osel 0b101) = some .outShot ∧
  decode (.ssel 0b1101) = some .schTxDoneEval ∧
  decode (.psel 0b10100) = some .dspSeekfHeldSame ∧
  decode (.esel 0b101) = some .encExt

/-! ### The step -/

/-- R21, R22: the tick event with stimulus word `w` runs exactly the operation `w` spells, on the state without that word. -/
def Obligations.StepRunsDecodedOperation : Prop :=
  ∀ (s : State) (w : StimWord) (ws : List StimWord) (i : Instr),
    s.cfg.legal = true → s.slot = none → s.input = w :: ws → decodeStim w = some i →
      step s = exec i { s with input := ws }

/-- The model's choice (log entry 2, DESIGN CHOICE): R227's absence of steps is, in the model, a step with no stimulus word pending,
and that step answers the same state, the pin level among it. -/
def Obligations.WithoutTickStateIsHeld : Prop :=
  ∀ s : State, s.cfg.legal = true → s.slot = none → s.input = [] → step s = .next s

/-- The model's choice (log entry 5): an operation in the host's probe slot runs alone in the next step. -/
def Obligations.ProbeSlotRunsItsOperation : Prop :=
  ∀ (s : State) (i : Instr), s.cfg.legal = true → s.slot = some i → step s = exec i { s with slot := none }

/-- R8: which configurations are legal, and that nothing runs under another. -/
def Obligations.IllegalConfigurationRunsNothing : Prop :=
  (∀ c : Config, c.legal = true ↔
    (∀ (y : Symbol) (r : CalRow), c.cal y = some r → r.center ≤ 1023 ∧ r.tol ≤ 1023) ∧
    (1 ≤ c.n ∧ c.n ≤ 65535) ∧ c.repeatWait.toNat + c.resumeGap.toNat ≤ 65535 ∧ c.resetSym.toNat ≤ 6 ∧
    (∀ v ∈ [c.cmdVolup, c.cmdVoldn, c.cmdSource, c.cmdSeekfFirst, c.cmdSeekfHeld, c.cmdSeekbFirst, c.cmdSeekbHeld,
      c.cmdExtra, c.addr], v.toNat ≤ 127)) ∧
  (∀ s : State, s.cfg.legal = false → step s = .refused .illegalConfig)

/-- R7: no operation writes the configuration; R40: `has_reset` is never cleared. -/
def Obligations.RunsKeepConfiguration : Prop :=
  ∀ (k : Nat) (s t : State), runSteps k s = .next t → t.cfg = s.cfg ∧ (s.hasReset = true → t.hasReset = true)

/-- Which stimulus word stops a run, and that nothing after it starts the run again. An OP_TICK before the first OP_RESET (R221),
in mode 3 (R222) or at an evaluation of symbol code 7 (R184) is the run's fault however long the run and whatever words follow,
OP_RESET among them (R224). From the invariant, a run completes on every word before a reserved one, keeps the invariant and takes
one word a step, and stops at the reserved word for good (R75, R224). That a stop has no next state, so that nothing can follow it,
is the model's reading of R224 (log entry 8, DEDUCED). -/
def Obligations.FaultsAndRefusalsAreFinal : Prop :=
  (∀ (s : State) (raw : RawSample) (ws : List StimWord) (k : Nat),
    s.cfg.legal = true → s.slot = none → s.input = tickWord raw :: ws →
      (s.hasReset = false → runSteps (k + 1) s = .fault .notReset) ∧
      (s.hasReset = true → s.mode = 3 → runSteps (k + 1) s = .fault .reservedMode) ∧
      (s.hasReset = true → s.evaluates = true → (filterTick s.cfg s.filter raw).fout = 7 →
        runSteps (k + 1) s = .fault .reservedSymbol)) ∧
  (∀ (s : State) (ws rest : List StimWord) (w : StimWord),
    s.Inv → s.input = ws ++ w :: rest → (∀ v ∈ ws, v.getLsbD 15 = true ∨ v.extractLsb' 10 5 = 0) →
    w.getLsbD 15 = false → w.extractLsb' 10 5 ≠ 0 →
      (∀ j : Nat, j ≤ ws.length →
        ∃ t, runSteps j s = .next t ∧ t.Inv ∧ t.input = ws.drop j ++ w :: rest) ∧
      ∀ k : Nat, runSteps (ws.length + 1 + k) s = .refused .reservedStimulus)

/-- R150: a stimulus word with `rst = 0` and the reserved bits 0 selects OP_TICK, and an OP_TICK is the guard, then the operation
each selector word selects, stage by stage, each on what the stage before it left, then `prev <- cur` of an evaluation, then the
level of waveform tick `tx_pos` on the pin. Past the end of the waveform R150 and R199 give no level: there the statement says the
model's choice, the free value of log entry 6 (DESIGN CHOICE). -/
def Obligations.TickRunsItsSelectedOperations : Prop :=
  (∀ w : StimWord, w &&& 0xFC00 = 0 → decode (.stim w) = some (.opTick (w.extractLsb' 0 10))) ∧
  ∀ (raw : RawSample) (s : State),
    exec (.opTick raw) s =
      if s.hasReset = false then .fault .notReset
      else match decodeSsel (sselWord (s.latch raw)) with
        | none => .fault .reservedMode
        | some i1 =>
          andThen (exec i1 (s.latch raw)) fun s1 =>
          andThen (exec (decodeCsel (cselWord s1)) s1) fun s2 =>
          andThen (exec (decodeDsel (dselWord s2)) s2) fun s3 =>
          andThen (exec (decodeOsel (oselWord s3)) s3) fun s4 =>
          andThen (if s4.loc.eval = true then
              match decodePsel (pselWord s4) with
              | none => .fault .reservedSymbol
              | some i5 => andThen (exec i5 { s4 with cmdStrobe := false }) fun s5 => .next { s5 with prev := s4.fout }
            else .next { s4 with cmdStrobe := false }) fun s6 =>
          .next { drive s6 with loc := TickLocal.idle }

/-- OP_TICK completes in every state of the invariant: the filter and the edge register hold what their rules say, and the
configuration, the pending input and `has_reset` are unchanged. -/
def Obligations.TickCompletesUnderInvariant : Prop :=
  ∀ (raw : RawSample) (s : State), s.Inv →
    ∃ t, exec (.opTick raw) s = .next t ∧
      t.filter = filterTick s.cfg s.filter raw ∧
      t.prev = (if s.evaluates = true then t.fout else s.prev) ∧
      t.loc = TickLocal.idle ∧ t.cfg = s.cfg ∧ t.input = s.input ∧ t.slot = s.slot ∧ t.hasReset = true

/-- R221, R222, R184 in the order of R228 (b): the first check that applies is raised; where none applies, OP_TICK completes, in
every state (past the end of the waveform with the free level of log entry 6). -/
def Obligations.FaultChecksInStageOrder : Prop :=
  ∀ (raw : RawSample) (s : State),
    (s.hasReset = false → exec (.opTick raw) s = .fault .notReset) ∧
    (s.hasReset = true → s.mode = 3 → exec (.opTick raw) s = .fault .reservedMode) ∧
    (s.hasReset = true → s.evaluates = true → (filterTick s.cfg s.filter raw).fout = 7 →
      exec (.opTick raw) s = .fault .reservedSymbol) ∧
    (s.hasReset = true → s.mode ≠ 3 → (s.evaluates = true → (filterTick s.cfg s.filter raw).fout ≠ 7) →
      ∃ t, exec (.opTick raw) s = .next t)

/-- R223, R220: no tick of any state meets a reserved segment type or a refusal. -/
def Obligations.TickNeverMeetsReservedSegment : Prop :=
  ∀ (raw : RawSample) (s : State),
    exec (.opTick raw) s ≠ .fault .reservedSegment ∧ ∀ r : Refusal, exec (.opTick raw) s ≠ .refused r

/-! ### Reset -/

/-- R250: OP_RESET writes every register, from any state, and a word with bit 15 set is OP_RESET. -/
def Obligations.ResetWritesResetValues : Prop :=
  (∀ w : StimWord, w.getLsbD 15 = true → decode (.stim w) = some .opReset) ∧
  ∀ s : State, exec .opReset s = .next
    { s with
      stable := s.cfg.resetSym, dcount := 0, armed := true, fout := s.cfg.resetSym, prev := Symbol.idle.code,
      mode := modeReady, txCmd := 0, txPos := 0, txVol := false, waitLeft := 0, pin := true, cmdStrobe := false,
      cmdCode := 0, hasReset := true, loc := TickLocal.idle }

/-- R252: the reset state, where the idle/reset symbol is IDLE; it is the one `State.reset` holds. -/
def Obligations.ResetStateSummary : Prop :=
  ∀ s : State, s.cfg.resetSym = Symbol.idle.code →
    ∃ t, exec .opReset s = .next t ∧
      t.stable = Symbol.idle.code ∧ t.fout = Symbol.idle.code ∧ t.prev = Symbol.idle.code ∧ t.dcount = 0 ∧ t.armed = true ∧
      t.mode = modeReady ∧ t.busy = false ∧ t.txCmd = 0 ∧ t.txPos = 0 ∧ t.txVol = false ∧ t.waitLeft = 0 ∧
      t.pinOut = true ∧ t.cmdStrobe = false ∧ t.cmdCode = 0 ∧ t.hasReset = true ∧
      t.filter = State.reset.filter ∧ t.mainRegs = State.reset.mainRegs

/-- R254: a held reset leaves the same state again, and `State.reset` is such a state. -/
def Obligations.HeldResetIsIdempotent : Prop :=
  (∀ s t : State, exec .opReset s = .next t → exec .opReset t = .next t) ∧ exec .opReset State.reset = .next State.reset

/-! ### Classifier -/

/-- R102 to R108: each classifier operation writes its symbol as this tick's `s`, and nothing else. -/
def Obligations.ClassifierOperations : Prop :=
  ∀ s : State,
    exec .clsVolup s = .next { s with loc := { s.loc with sym := Symbol.volUp.code } } ∧
    exec .clsVoldn s = .next { s with loc := { s.loc with sym := Symbol.volDown.code } } ∧
    exec .clsSource s = .next { s with loc := { s.loc with sym := Symbol.source.code } } ∧
    exec .clsSeekf s = .next { s with loc := { s.loc with sym := Symbol.seekFwd.code } } ∧
    exec .clsSeekb s = .next { s with loc := { s.loc with sym := Symbol.seekBack.code } } ∧
    exec .clsExtra s = .next { s with loc := { s.loc with sym := Symbol.extra.code } } ∧
    exec .clsIdle s = .next { s with loc := { s.loc with sym := Symbol.idle.code } }

/-- R101: the operation the CSEL word picks writes `classify(raw)`, always in 0..6, and nothing else; the result depends on the
sample and the configuration alone. -/
def Obligations.ClassifierSelectsFirstWindow : Prop :=
  ∀ s : State,
    exec (decodeCsel (cselWord s)) s =
      .next { s with loc := { s.loc with sym := (classify s.cfg s.loc.raw).code } } ∧
    (classify s.cfg s.loc.raw).code.toNat ≤ 6

/-- R100: window membership on integers, under both settings of `WINDOW_EDGES`. -/
def Obligations.WindowMembership : Prop :=
  ∀ (c : Config) (y : Symbol) (r : CalRow) (raw : RawSample), c.cal y = some r →
    (c.edges = .inclusive →
      (inwin c y raw = true ↔
        max 0 ((r.center : Int) - r.tol) ≤ (raw.toNat : Int) ∧ (raw.toNat : Int) ≤ (r.center : Int) + r.tol)) ∧
    (c.edges = .exclusive →
      (inwin c y raw = true ↔
        max 0 ((r.center : Int) - r.tol) < (raw.toNat : Int) ∧ (raw.toNat : Int) < (r.center : Int) + r.tol))

/-- R109, R101: the classifier answers a button exactly when its window holds the sample and no window of higher priority does,
and IDLE exactly when no window holds it. -/
def Obligations.OverlapResolvedByPriority : Prop :=
  ∀ (c : Config) (raw : RawSample),
    (∀ y : Symbol, y ≠ .idle →
      (classify c raw = y ↔
        inwin c y raw = true ∧ ∀ z : Symbol, z.code.toNat < y.code.toNat → inwin c z raw = false)) ∧
    (classify c raw = .idle ↔ ∀ z : Symbol, inwin c z raw = false)

/-! ### Filter -/

/-- R120, R121, R122: for every state one filter operation is selected, and its effect is the whole change. -/
def Obligations.FilterStepSelectsAndRuns : Prop :=
  ∀ s : State, s.cfg.legal = true →
    if s.loc.sym = s.stable then
      decodeDsel (dselWord s) = .dbMatch ∧ exec .dbMatch s = .next { s with dcount := 0 }
    else if s.dcount.toNat + 1 < s.cfg.n then
      decodeDsel (dselWord s) = .dbCount ∧ exec .dbCount s = .next { s with dcount := s.dcount + 1 } ∧
        (s.dcount + 1).toNat = s.dcount.toNat + 1
    else
      decodeDsel (dselWord s) = .dbCommit ∧ exec .dbCommit s = .next { s with stable := s.loc.sym, dcount := 0 }

/-- R140, R141, R142, R143: for every state one output operation is selected, and its effect is the whole change. -/
def Obligations.OutputStageSelectsAndRuns : Prop :=
  ∀ s : State,
    if s.cfg.oneshot = false then
      decodeOsel (oselWord s) = .outCont ∧ exec .outCont s = .next { s with fout := s.stable }
    else if s.stable = s.cfg.resetSym then
      decodeOsel (oselWord s) = .outRearm ∧ exec .outRearm s = .next { s with fout := s.stable, armed := true }
    else if s.armed = true then
      decodeOsel (oselWord s) = .outShot ∧ exec .outShot s = .next { s with fout := s.stable, armed := false }
    else
      decodeOsel (oselWord s) = .outSupp ∧ exec .outSupp s = .next { s with fout := s.cfg.resetSym }

/-- R124, R53: every OP_TICK that goes on, busy or not, changes the filter registers by the filter's rules alone: by a function
of them, the sample and the configuration. -/
def Obligations.FilterRunsAtEveryTick : Prop :=
  ∀ (raw : RawSample) (s t : State), exec (.opTick raw) s = .next t → t.filter = filterTick s.cfg s.filter raw

/-- R123: `N` is the least positive count of ticks whose elapsed time reaches the window. -/
def Obligations.DebounceTicksIsLeastCount : Prop :=
  ∀ tick ms : Nat, 0 < tick →
    1 ≤ debounceTicks tick ms ∧ ms * 1000 ≤ debounceTicks tick ms * tick ∧
      ∀ m : Nat, 1 ≤ m → ms * 1000 ≤ m * tick → debounceTicks tick ms ≤ m

/-- R127: under uniform input the first ticks count, the commit comes at the tick that fills the window, and `stable` holds the
symbol from then on. `dcount` ticks counted before the run shorten it. -/
def Obligations.UniformInputCommitsOnTime : Prop :=
  ∀ (s : State) (y : Symbol) (raws : List RawSample),
    s.Inv → s.input = raws.map tickWord → (∀ r ∈ raws, classify s.cfg r = y) → y.code ≠ s.stable →
      ∀ j : Nat, j ≤ raws.length →
        ∃ t, runSteps j s = .next t ∧
          if j < s.cfg.n - s.dcount.toNat then t.stable = s.stable ∧ t.dcount.toNat = s.dcount.toNat + j
          else t.stable = y.code ∧ t.dcount = 0

/-- R128: a run of fewer differing ticks than the window, then a matching tick, never changes `stable` and leaves the counter 0. -/
def Obligations.ShortGlitchLeavesStable : Prop :=
  ∀ (s : State) (raws : List RawSample) (back : RawSample),
    s.Inv → s.input = (raws ++ [back]).map tickWord → (∀ r ∈ raws, (classify s.cfg r).code ≠ s.stable) →
    s.dcount.toNat + raws.length < s.cfg.n → (classify s.cfg back).code = s.stable →
      (∀ j : Nat, j ≤ raws.length + 1 → ∃ t, runSteps j s = .next t ∧ t.stable = s.stable) ∧
      ∃ t, runSteps (raws.length + 1) s = .next t ∧ t.dcount = 0

/-- R126: a change of `stable` at a tick means that at each of the last `N` ticks the symbol differed from the old stable symbol,
that `stable` held through them, and that the new value is this tick's symbol. -/
def Obligations.StableChangesOnlyAfterFullWindow : Prop :=
  ∀ (s u t : State) (raws : List RawSample) (last : RawSample),
    s.Inv → s.dcount = 0 → s.input = (raws ++ [last]).map tickWord →
    runSteps raws.length s = .next u → step u = .next t → t.stable ≠ u.stable →
      s.cfg.n ≤ raws.length + 1 ∧ t.stable = (classify s.cfg last).code ∧
      (∀ r ∈ (raws ++ [last]).drop (raws.length + 1 - s.cfg.n), (classify s.cfg r).code ≠ u.stable) ∧
      (∀ j : Nat, raws.length + 1 - s.cfg.n ≤ j → j ≤ raws.length → ∃ v, runSteps j s = .next v ∧ v.stable = u.stable)

/-! ### Scheduler -/

/-- R152 to R157: which scheduler operation each state selects, and that its effect is the whole change. -/
def Obligations.SchedulerSelectsAndRuns : Prop :=
  ∀ s : State,
    (s.mode = modeReady →
      decodeSsel (sselWord s) = some .schEval ∧
        exec .schEval s = .next { s with loc := { s.loc with eval := true } }) ∧
    (s.mode = modeTx → s.txPos.toNat + 1 < txLen s.cfg.addr s.txCmd →
      decodeSsel (sselWord s) = some .schTxAdv ∧
        exec .schTxAdv s = .next { s with txPos := s.txPos + 1, loc := { s.loc with eval := false } } ∧
        (s.txPos + 1).toNat = s.txPos.toNat + 1) ∧
    (s.mode = modeTx → s.txPos.toNat + 1 = txLen s.cfg.addr s.txCmd → post s.cfg s.txVol = 0 →
      decodeSsel (sselWord s) = some .schTxDoneEval ∧
        exec .schTxDoneEval s = .next { s with mode := modeReady, loc := { s.loc with eval := true } }) ∧
    (s.mode = modeTx → s.txPos.toNat + 1 = txLen s.cfg.addr s.txCmd → 0 < post s.cfg s.txVol → s.cfg.legal = true →
      decodeSsel (sselWord s) = some .schTxDoneWait ∧
        ∃ w : BitVec 16, w.toNat = post s.cfg s.txVol - 1 ∧
          exec .schTxDoneWait s = .next { s with mode := modeWait, waitLeft := w, loc := { s.loc with eval := false } }) ∧
    (s.mode = modeWait → 0 < s.waitLeft.toNat →
      decodeSsel (sselWord s) = some .schWaitDec ∧
        exec .schWaitDec s = .next { s with waitLeft := s.waitLeft - 1, loc := { s.loc with eval := false } } ∧
        (s.waitLeft - 1).toNat = s.waitLeft.toNat - 1) ∧
    (s.mode = modeWait → s.waitLeft = 0 →
      decodeSsel (sselWord s) = some .schWaitDone ∧
        exec .schWaitDone s = .next { s with mode := modeReady, loc := { s.loc with eval := true } })

/-- R159: the schedule of one emission, from the state right after it (waveform tick 0): the transmission's ticks with their
levels, the wait, no evaluation before its end, and the evaluation at tick `L + P`. -/
def Obligations.EmissionSchedule : Prop :=
  ∀ (s : State) (raws : List RawSample),
    s.Inv → s.mode = modeTx → s.txPos = 0 → s.input = raws.map tickWord →
    raws.length = txLen s.cfg.addr s.txCmd + post s.cfg s.txVol →
      (∀ j : Nat, j < txLen s.cfg.addr s.txCmd →
        ∃ t, runSteps j s = .next t ∧ t.mode = modeTx ∧ t.txPos.toNat = j ∧ t.txCmd = s.txCmd ∧
          (txWave s.cfg.addr s.txCmd)[j]? = some t.pin ∧ t.busy = true) ∧
      (∀ j : Nat, txLen s.cfg.addr s.txCmd ≤ j → j < raws.length →
        ∃ t, runSteps j s = .next t ∧ t.mode = modeWait ∧ t.waitLeft.toNat = raws.length - 1 - j ∧
          t.pin = true ∧ t.busy = true) ∧
      (∀ j : Nat, j + 1 < raws.length →
        ∃ t u, runSteps j s = .next t ∧ t.evaluates = false ∧ step t = .next u ∧ u.prev = s.prev ∧ u.cmdStrobe = false) ∧
      (∃ t u, runSteps (raws.length - 1) s = .next t ∧ t.evaluates = true ∧ step t = .next u ∧ u.prev = u.fout)

/-- R188: at a tick that is no evaluation, what the main-loop registers and the pin become does not depend on the sample nor on
the filter's registers; the block stays busy and emits nothing. That two ticks past the end of the waveform, which no reset state
reaches, drive equal levels too is the model's choice (log entry 6, DESIGN CHOICE), not R188's. -/
def Obligations.BusyTickIgnoresInput : Prop :=
  ∀ (s1 s2 t1 t2 : State) (raw1 raw2 : RawSample),
    s1.mainRegs = s2.mainRegs → s1.cfg = s2.cfg → s1.evaluates = false →
    exec (.opTick raw1) s1 = .next t1 → exec (.opTick raw2) s2 = .next t2 →
      t1.mainRegs = t2.mainRegs ∧ t1.busy = true ∧ t1.cmdStrobe = false

/-! ### Dispatcher -/

/-- R171 to R175, R182, R183: for the symbols that are no seek symbol, the operation selected and its whole effect, the emission
of R170 register by register. -/
def Obligations.DispatcherSelectsAndRuns : Prop :=
  ∀ s : State,
    (s.fout = Symbol.idle.code →
      decodePsel (pselWord s) = some .dspIdle ∧ exec .dspIdle s = .next s) ∧
    (s.fout = Symbol.volUp.code →
      decodePsel (pselWord s) = some .dspVolup ∧ exec .dspVolup s = .next (s.emitted s.cfg.cmdVolup true)) ∧
    (s.fout = Symbol.volDown.code →
      decodePsel (pselWord s) = some .dspVoldn ∧ exec .dspVoldn s = .next (s.emitted s.cfg.cmdVoldn true)) ∧
    (s.fout = Symbol.source.code → s.fout ≠ s.prev →
      decodePsel (pselWord s) = some .dspSourceEdge ∧
        exec .dspSourceEdge s = .next (s.emitted s.cfg.cmdSource false)) ∧
    (s.fout = Symbol.source.code → s.fout = s.prev →
      decodePsel (pselWord s) = some .dspSourceHold ∧ exec .dspSourceHold s = .next s) ∧
    (s.fout = Symbol.extra.code → s.fout ≠ s.prev →
      decodePsel (pselWord s) = some .dspExtraEdge ∧ exec .dspExtraEdge s = .next (s.emitted s.cfg.cmdExtra false)) ∧
    (s.fout = Symbol.extra.code → s.fout = s.prev →
      decodePsel (pselWord s) = some .dspExtraHold ∧ exec .dspExtraHold s = .next s)

/-- R176 to R181: for the seek symbols, the operation selected by the edge and `HELD_SAME`, and its whole effect. -/
def Obligations.SeekDispatcherSelectsAndRuns : Prop :=
  ∀ s : State,
    (s.fout = Symbol.seekFwd.code → s.fout ≠ s.prev →
      decodePsel (pselWord s) = some .dspSeekfFirst ∧
        exec .dspSeekfFirst s = .next (s.emitted s.cfg.cmdSeekfFirst false)) ∧
    (s.fout = Symbol.seekFwd.code → s.fout = s.prev → s.cfg.heldSame = false →
      decodePsel (pselWord s) = some .dspSeekfHeld ∧
        exec .dspSeekfHeld s = .next (s.emitted s.cfg.cmdSeekfHeld false)) ∧
    (s.fout = Symbol.seekFwd.code → s.fout = s.prev → s.cfg.heldSame = true →
      decodePsel (pselWord s) = some .dspSeekfHeldSame ∧
        exec .dspSeekfHeldSame s = .next (s.emitted s.cfg.cmdSeekfFirst false)) ∧
    (s.fout = Symbol.seekBack.code → s.fout ≠ s.prev →
      decodePsel (pselWord s) = some .dspSeekbFirst ∧
        exec .dspSeekbFirst s = .next (s.emitted s.cfg.cmdSeekbFirst false)) ∧
    (s.fout = Symbol.seekBack.code → s.fout = s.prev → s.cfg.heldSame = false →
      decodePsel (pselWord s) = some .dspSeekbHeld ∧
        exec .dspSeekbHeld s = .next (s.emitted s.cfg.cmdSeekbHeld false)) ∧
    (s.fout = Symbol.seekBack.code → s.fout = s.prev → s.cfg.heldSame = true →
      decodePsel (pselWord s) = some .dspSeekbHeldSame ∧
        exec .dspSeekbHeldSame s = .next (s.emitted s.cfg.cmdSeekbFirst false))

/-- R161, R151: an evaluation tick records the filter output it read; every other tick leaves `prev` unchanged. -/
def Obligations.EvaluationRecordsPrevious : Prop :=
  ∀ (raw : RawSample) (s t : State), exec (.opTick raw) s = .next t →
    if s.evaluates = true then t.prev = t.fout else t.prev = s.prev

/-- R73: what an evaluation sends, by symbol and edge; a tick that sends nothing leaves the transmission registers unchanged. -/
def Obligations.EvaluationSendsTableCommand : Prop :=
  ∀ (raw : RawSample) (s t : State), exec (.opTick raw) s = .next t → s.evaluates = true →
    match commandFor s.cfg s.prev t.fout with
    | some (c, v) =>
      t.mode = modeTx ∧ t.txCmd = c ∧ t.txPos = 0 ∧ t.txVol = v ∧ t.cmdStrobe = true ∧ t.cmdCode = c ∧ t.pin = true
    | none =>
      t.mode = modeReady ∧ t.txCmd = s.txCmd ∧ t.txPos = s.txPos ∧ t.txVol = s.txVol ∧ t.cmdStrobe = false ∧
        t.cmdCode = s.cmdCode ∧ t.pin = true

/-- R281, R255: from READY at IDLE, a button held from a tick on is committed and sent at the `N`-th tick, the pin still high in
it and low in the next. -/
def Obligations.PressLatency : Prop :=
  ∀ (s : State) (y : Symbol) (raws : List RawSample) (last : RawSample),
    s.Inv → s.cfg.oneshot = false → s.mode = modeReady → s.stable = Symbol.idle.code → s.prev = Symbol.idle.code →
    s.dcount = 0 → y ≠ .idle → (∀ r ∈ raws, classify s.cfg r = y) → raws.length = s.cfg.n →
    s.input = (raws ++ [last]).map tickWord →
      (∀ j : Nat, j < s.cfg.n →
        ∃ t, runSteps j s = .next t ∧ t.stable = Symbol.idle.code ∧ t.mode = modeReady ∧ t.pin = true ∧
          (0 < j → t.cmdStrobe = false)) ∧
      ∃ c v t u, commandFor s.cfg Symbol.idle.code y.code = some (c, v) ∧
        runSteps s.cfg.n s = .next t ∧ t.stable = y.code ∧ t.fout = y.code ∧ t.cmdStrobe = true ∧ t.cmdCode = c ∧
        t.mode = modeTx ∧ t.txCmd = c ∧ t.txPos = 0 ∧ t.txVol = v ∧ t.pin = true ∧
        runSteps (s.cfg.n + 1) s = .next u ∧ u.pin = false

/-- R186: while the sample stays in VOL_UP's window the command is sent with period `TXLEN + R + G`, at no tick between, and the
block is back in the same state after each period. -/
def Obligations.VolumeCadence : Prop :=
  ∀ (s : State) (m : Nat) (raws : List RawSample),
    s.Inv → s.cfg.oneshot = false → s.mode = modeTx → s.txPos = 0 → s.txVol = true → s.txCmd = s.cfg.cmdVolup →
    s.cmdStrobe = true → s.cmdCode = s.cfg.cmdVolup → s.waitLeft = 0 → s.dcount = 0 →
    s.stable = Symbol.volUp.code → s.prev = Symbol.volUp.code →
    (∀ r ∈ raws, classify s.cfg r = .volUp) → s.input = raws.map tickWord →
    raws.length = m * (txLen s.cfg.addr s.cfg.cmdVolup + s.cfg.repeatWait.toNat + s.cfg.resumeGap.toNat) →
      (∀ j : Nat, j ≤ raws.length →
        ∃ t, runSteps j s = .next t ∧
          (t.cmdStrobe = true ↔
            j % (txLen s.cfg.addr s.cfg.cmdVolup + s.cfg.repeatWait.toNat + s.cfg.resumeGap.toNat) = 0)) ∧
      runSteps raws.length s = .next { s with input := [] }

/-- R185: while the sample stays in a seek symbol's window, with `G = 0`, the held code (the first code again if `HELD_SAME`)
follows the first code back to back, and nothing is sent between. -/
def Obligations.HeldSeekCadence : Prop :=
  ∀ (s : State) (y : Symbol) (first held : CmdCode) (m : Nat) (raws : List RawSample),
    s.Inv → s.cfg.oneshot = false → s.cfg.resumeGap = 0 → s.mode = modeTx → s.txPos = 0 → s.txVol = false →
    ((y = .seekFwd ∧ first = s.cfg.cmdSeekfFirst ∧
        held = if s.cfg.heldSame = true then s.cfg.cmdSeekfFirst else s.cfg.cmdSeekfHeld) ∨
      (y = .seekBack ∧ first = s.cfg.cmdSeekbFirst ∧
        held = if s.cfg.heldSame = true then s.cfg.cmdSeekbFirst else s.cfg.cmdSeekbHeld)) →
    s.txCmd = first → s.dcount = 0 → s.stable = y.code → s.prev = y.code →
    (∀ r ∈ raws, classify s.cfg r = y) → s.input = raws.map tickWord →
    raws.length = txLen s.cfg.addr first + m * txLen s.cfg.addr held →
      ∀ j : Nat, 0 < j → j ≤ raws.length →
        ∃ t, runSteps j s = .next t ∧
          (t.cmdStrobe = true ↔
            txLen s.cfg.addr first ≤ j ∧ (j - txLen s.cfg.addr first) % txLen s.cfg.addr held = 0) ∧
          (t.cmdStrobe = true → t.cmdCode = held ∧ t.txVol = false ∧ t.txPos = 0)

/-- R265: with one-shot mode on, a button that stays pressed after its report sends nothing more, however long it is held. -/
def Obligations.OneShotHoldSendsOnce : Prop :=
  ∀ (s : State) (y : Symbol) (raws : List RawSample),
    s.Inv → s.cfg.oneshot = true → s.cfg.resetSym = Symbol.idle.code → s.mode = modeTx → s.txPos = 0 →
    s.armed = false → s.dcount = 0 → y ≠ .idle → s.stable = y.code →
    (∀ r ∈ raws, classify s.cfg r = y) → s.input = raws.map tickWord →
      ∀ j : Nat, 0 < j → j ≤ raws.length →
        ∃ t, runSteps j s = .next t ∧ t.cmdStrobe = false ∧ t.fout = Symbol.idle.code

/-! ### Encoder and pin -/

/-- R190 to R195: the segment each operation adds to the waveform, and that it changes nothing else; ENC_EXT adds its segment for
a 1 bit only. -/
def Obligations.EncoderOperations : Prop :=
  ∀ s : State,
    exec .encBusrst s = .next { s with loc := { s.loc with wave := s.loc.wave ++ [true] } } ∧
    exec .encAgcLow s = .next { s with loc := { s.loc with wave := s.loc.wave ++ List.replicate 16 false } } ∧
    exec .encAgcHigh s = .next { s with loc := { s.loc with wave := s.loc.wave ++ List.replicate 8 true } } ∧
    exec .encMark s = .next { s with loc := { s.loc with wave := s.loc.wave ++ [false] } } ∧
    exec .encSpace s = .next { s with loc := { s.loc with wave := s.loc.wave ++ [true] } } ∧
    exec .encExt s = .next
      { s with loc := { s.loc with wave := s.loc.wave ++ if s.loc.encBit = true then [true, true] else [] } }

/-- R197: running the segment operations of a transmission builds `TXWAVE(c)`; a frame has `40 + popcount7(ADDR) + popcount7(c)`
segments, none of type 6 or 7. -/
def Obligations.SegmentsBuildTheWaveform : Prop :=
  ∀ (addr c : CmdCode) (s : State),
    (∃ t, playSegs (txSegs addr c) s = .next t ∧ t.loc.wave = s.loc.wave ++ txWave addr c ∧ t = { s with loc := t.loc }) ∧
    (frameSegs addr c).length = 40 + popcount7 addr + popcount7 c ∧
    (∀ g ∈ frameSegs addr c, g.kind ≠ 6 ∧ g.kind ≠ 7)

/-- R198: the lengths of a frame and of a transmission, for any address, and their ranges. -/
def Obligations.WaveformLengths : Prop :=
  (∀ addr c : CmdCode,
    (frameWave addr c).length = 65 + 2 * popcount7 addr + 2 * popcount7 c ∧
    (txWave addr c).length = txLen addr c ∧ txLen addr c = 3 * (frameWave addr c).length ∧ txLen addr c ≤ 279) ∧
  (∀ c : CmdCode,
    (frameWave 0x47 c).length = 73 + 2 * popcount7 c ∧ 219 ≤ txLen 0x47 c ∧ txLen 0x47 c ≤ 261) ∧
  (frameWave 0x47 0x00).length = 73 ∧ (frameWave 0x47 0x7F).length = 87

/-- R200, R201: what each tick of a frame is for `ADDR = 0x47`, and where each of the three frames starts. -/
def Obligations.FrameLayout : Prop :=
  ∀ c : CmdCode,
    (frameWave 0x47 c).take 29 =
      [true] ++ List.replicate 16 false ++ List.replicate 8 true ++ [false, true, true, true] ∧
    ((frameWave 0x47 c).drop 29).take 22 =
      [false, true, true, true, false, true, true, true, false, true, true, true, false, true, false, true, false, true,
        false, true, true, true] ∧
    ((frameWave 0x47 c).drop 51).take (14 + 2 * popcount7 c) = fieldWave c ∧
    (frameWave 0x47 c).drop (65 + 2 * popcount7 c) = [false, true, true, true, false, true, true, true] ∧
    (∀ r j : Nat, r < 3 → j < frameLen 0x47 c →
      (txWave 0x47 c)[r * frameLen 0x47 c + j]? = (frameWave 0x47 c)[j]?)

/-- R199: every OP_TICK that goes on leaves the pin at the level of waveform tick `tx_pos` in TX, and high otherwise. The one
case without a statement is a `tx_pos` past the end of the waveform, which is none of its ticks. -/
def Obligations.PinDrivesTheWaveform : Prop :=
  ∀ (raw : RawSample) (s t : State), exec (.opTick raw) s = .next t →
    if t.mode = modeTx then
      t.txPos.toNat < txLen t.cfg.addr t.txCmd → (txWave t.cfg.addr t.txCmd)[t.txPos.toNat]? = some t.pin
    else t.pin = true

/-! ### Frames and whole-machine rules -/

/-- R53: what each operation may write. A classifier or segment operation writes tick-local values only, a filter step `stable`
and `dcount`, an output operation `fout` and `armed`, a scheduler operation `mode`, `tx_pos`, `wait_left` and `eval`, a dispatcher
operation the transmission registers; OP_RESET and OP_TICK write no configuration and no pending input. -/
def Obligations.OperationsWriteOnlyTheirRegisters : Prop :=
  ∀ (i : Instr) (s t : State), exec i s = .next t →
    match i.row.fmt with
    | .csel => t = { s with loc := t.loc }
    | .esel => t = { s with loc := t.loc }
    | .dsel => t = { s with stable := t.stable, dcount := t.dcount }
    | .osel => t = { s with fout := t.fout, armed := t.armed }
    | .ssel => t = { s with mode := t.mode, txPos := t.txPos, waitLeft := t.waitLeft, loc := t.loc }
    | .psel => t = { s with mode := t.mode, txCmd := t.txCmd, txPos := t.txPos, txVol := t.txVol,
                            cmdStrobe := t.cmdStrobe, cmdCode := t.cmdCode }
    | .stim => t.cfg = s.cfg ∧ t.input = s.input ∧ t.slot = s.slot

/-- R44 and R199: the invariant is kept by every step, from every state that has it. -/
def Obligations.InvariantKeptByStep : Prop :=
  ∀ s t : State, s.Inv → step s = .next t → t.Inv

/-- The invariant holds right after OP_RESET from any state with a legal configuration, and at `State.reset`. -/
def Obligations.InvariantHoldsAfterReset : Prop :=
  (∀ s : State, s.cfg.legal = true → s.slot = none → ∃ t, exec .opReset s = .next t ∧ t.Inv) ∧
  (∀ c : Config, c.legal = true → (State.resetOf c).Inv) ∧ State.reset.Inv

/-- R44: the ranges of the registers after every step of a run that begins with OP_RESET, from any power-up state. -/
def Obligations.RegisterRangesAfterReset : Prop :=
  ∀ (s t : State) (w : StimWord) (ws : List StimWord) (k : Nat),
    s.cfg.legal = true → s.slot = none → s.input = w :: ws → w.getLsbD 15 = true → runSteps (k + 1) s = .next t →
      t.stable.toNat ≤ 6 ∧ t.fout.toNat ≤ 6 ∧ t.prev.toNat ≤ 6 ∧ t.mode.toNat ≤ 2 ∧ t.dcount.toNat ≤ t.cfg.n - 1 ∧
      (t.mode = modeTx → t.txPos.toNat < txLen t.cfg.addr t.txCmd) ∧
      (t.mode = modeWait → t.waitLeft.toNat ≤ t.cfg.repeatWait.toNat + t.cfg.resumeGap.toNat - 1) ∧
      (t.cfg.oneshot = false → t.fout = t.stable ∧ t.armed = true) ∧ (t.mode ≠ modeTx → t.pin = true)

/-- R225: on every legal configuration and every stimulus sequence that starts with OP_RESET and holds no reserved word, no fault
is raised and nothing is refused, from any power-up state and for any number of steps. -/
def Obligations.NoFaultOnLegalInput : Prop :=
  ∀ (s : State) (w : StimWord) (ws : List StimWord) (k : Nat),
    s.cfg.legal = true → s.slot = none → s.input = w :: ws → w.getLsbD 15 = true →
    (∀ v ∈ ws, v.getLsbD 15 = true ∨ v.extractLsb' 10 5 = 0) →
      ∃ t, runSteps k s = .next t
end

