-- ==== Sys2Proof/Laws/State.lean ====
section
/-! SUPPORT. One lemma for each field and each named update of the state: what the field holds afterwards. -/

namespace Sys2Proof.Machine

/-! ### `State.latch` -/

@[simp] theorem State.latch_stable (s : State) (raw : RawSample) : (s.latch raw).stable = s.stable := rfl
@[simp] theorem State.latch_dcount (s : State) (raw : RawSample) : (s.latch raw).dcount = s.dcount := rfl
@[simp] theorem State.latch_armed (s : State) (raw : RawSample) : (s.latch raw).armed = s.armed := rfl
@[simp] theorem State.latch_fout (s : State) (raw : RawSample) : (s.latch raw).fout = s.fout := rfl
@[simp] theorem State.latch_prev (s : State) (raw : RawSample) : (s.latch raw).prev = s.prev := rfl
@[simp] theorem State.latch_mode (s : State) (raw : RawSample) : (s.latch raw).mode = s.mode := rfl
@[simp] theorem State.latch_txCmd (s : State) (raw : RawSample) : (s.latch raw).txCmd = s.txCmd := rfl
@[simp] theorem State.latch_txPos (s : State) (raw : RawSample) : (s.latch raw).txPos = s.txPos := rfl
@[simp] theorem State.latch_txVol (s : State) (raw : RawSample) : (s.latch raw).txVol = s.txVol := rfl
@[simp] theorem State.latch_waitLeft (s : State) (raw : RawSample) : (s.latch raw).waitLeft = s.waitLeft := rfl
@[simp] theorem State.latch_pin (s : State) (raw : RawSample) : (s.latch raw).pin = s.pin := rfl
@[simp] theorem State.latch_cmdStrobe (s : State) (raw : RawSample) : (s.latch raw).cmdStrobe = s.cmdStrobe := rfl
@[simp] theorem State.latch_cmdCode (s : State) (raw : RawSample) : (s.latch raw).cmdCode = s.cmdCode := rfl
@[simp] theorem State.latch_hasReset (s : State) (raw : RawSample) : (s.latch raw).hasReset = s.hasReset := rfl
@[simp] theorem State.latch_loc (s : State) (raw : RawSample) : (s.latch raw).loc = { TickLocal.idle with raw := raw } := rfl
@[simp] theorem State.latch_cfg (s : State) (raw : RawSample) : (s.latch raw).cfg = s.cfg := rfl
@[simp] theorem State.latch_input (s : State) (raw : RawSample) : (s.latch raw).input = s.input := rfl
@[simp] theorem State.latch_slot (s : State) (raw : RawSample) : (s.latch raw).slot = s.slot := rfl

/-! ### `State.clearLoc` -/

@[simp] theorem State.clearLoc_stable (s : State) : s.clearLoc.stable = s.stable := rfl
@[simp] theorem State.clearLoc_dcount (s : State) : s.clearLoc.dcount = s.dcount := rfl
@[simp] theorem State.clearLoc_armed (s : State) : s.clearLoc.armed = s.armed := rfl
@[simp] theorem State.clearLoc_fout (s : State) : s.clearLoc.fout = s.fout := rfl
@[simp] theorem State.clearLoc_prev (s : State) : s.clearLoc.prev = s.prev := rfl
@[simp] theorem State.clearLoc_mode (s : State) : s.clearLoc.mode = s.mode := rfl
@[simp] theorem State.clearLoc_txCmd (s : State) : s.clearLoc.txCmd = s.txCmd := rfl
@[simp] theorem State.clearLoc_txPos (s : State) : s.clearLoc.txPos = s.txPos := rfl
@[simp] theorem State.clearLoc_txVol (s : State) : s.clearLoc.txVol = s.txVol := rfl
@[simp] theorem State.clearLoc_waitLeft (s : State) : s.clearLoc.waitLeft = s.waitLeft := rfl
@[simp] theorem State.clearLoc_pin (s : State) : s.clearLoc.pin = s.pin := rfl
@[simp] theorem State.clearLoc_cmdStrobe (s : State) : s.clearLoc.cmdStrobe = s.cmdStrobe := rfl
@[simp] theorem State.clearLoc_cmdCode (s : State) : s.clearLoc.cmdCode = s.cmdCode := rfl
@[simp] theorem State.clearLoc_hasReset (s : State) : s.clearLoc.hasReset = s.hasReset := rfl
@[simp] theorem State.clearLoc_loc (s : State) : s.clearLoc.loc = TickLocal.idle := rfl
@[simp] theorem State.clearLoc_cfg (s : State) : s.clearLoc.cfg = s.cfg := rfl
@[simp] theorem State.clearLoc_input (s : State) : s.clearLoc.input = s.input := rfl
@[simp] theorem State.clearLoc_slot (s : State) : s.clearLoc.slot = s.slot := rfl

/-! ### `State.setSym` -/

@[simp] theorem State.setSym_stable (s : State) (c : SymCode) : (s.setSym c).stable = s.stable := rfl
@[simp] theorem State.setSym_dcount (s : State) (c : SymCode) : (s.setSym c).dcount = s.dcount := rfl
@[simp] theorem State.setSym_armed (s : State) (c : SymCode) : (s.setSym c).armed = s.armed := rfl
@[simp] theorem State.setSym_fout (s : State) (c : SymCode) : (s.setSym c).fout = s.fout := rfl
@[simp] theorem State.setSym_prev (s : State) (c : SymCode) : (s.setSym c).prev = s.prev := rfl
@[simp] theorem State.setSym_mode (s : State) (c : SymCode) : (s.setSym c).mode = s.mode := rfl
@[simp] theorem State.setSym_txCmd (s : State) (c : SymCode) : (s.setSym c).txCmd = s.txCmd := rfl
@[simp] theorem State.setSym_txPos (s : State) (c : SymCode) : (s.setSym c).txPos = s.txPos := rfl
@[simp] theorem State.setSym_txVol (s : State) (c : SymCode) : (s.setSym c).txVol = s.txVol := rfl
@[simp] theorem State.setSym_waitLeft (s : State) (c : SymCode) : (s.setSym c).waitLeft = s.waitLeft := rfl
@[simp] theorem State.setSym_pin (s : State) (c : SymCode) : (s.setSym c).pin = s.pin := rfl
@[simp] theorem State.setSym_cmdStrobe (s : State) (c : SymCode) : (s.setSym c).cmdStrobe = s.cmdStrobe := rfl
@[simp] theorem State.setSym_cmdCode (s : State) (c : SymCode) : (s.setSym c).cmdCode = s.cmdCode := rfl
@[simp] theorem State.setSym_hasReset (s : State) (c : SymCode) : (s.setSym c).hasReset = s.hasReset := rfl
@[simp] theorem State.setSym_loc (s : State) (c : SymCode) : (s.setSym c).loc = { s.loc with sym := c } := rfl
@[simp] theorem State.setSym_cfg (s : State) (c : SymCode) : (s.setSym c).cfg = s.cfg := rfl
@[simp] theorem State.setSym_input (s : State) (c : SymCode) : (s.setSym c).input = s.input := rfl
@[simp] theorem State.setSym_slot (s : State) (c : SymCode) : (s.setSym c).slot = s.slot := rfl

/-! ### `State.setEval` -/

@[simp] theorem State.setEval_stable (s : State) (b : Bool) : (s.setEval b).stable = s.stable := rfl
@[simp] theorem State.setEval_dcount (s : State) (b : Bool) : (s.setEval b).dcount = s.dcount := rfl
@[simp] theorem State.setEval_armed (s : State) (b : Bool) : (s.setEval b).armed = s.armed := rfl
@[simp] theorem State.setEval_fout (s : State) (b : Bool) : (s.setEval b).fout = s.fout := rfl
@[simp] theorem State.setEval_prev (s : State) (b : Bool) : (s.setEval b).prev = s.prev := rfl
@[simp] theorem State.setEval_mode (s : State) (b : Bool) : (s.setEval b).mode = s.mode := rfl
@[simp] theorem State.setEval_txCmd (s : State) (b : Bool) : (s.setEval b).txCmd = s.txCmd := rfl
@[simp] theorem State.setEval_txPos (s : State) (b : Bool) : (s.setEval b).txPos = s.txPos := rfl
@[simp] theorem State.setEval_txVol (s : State) (b : Bool) : (s.setEval b).txVol = s.txVol := rfl
@[simp] theorem State.setEval_waitLeft (s : State) (b : Bool) : (s.setEval b).waitLeft = s.waitLeft := rfl
@[simp] theorem State.setEval_pin (s : State) (b : Bool) : (s.setEval b).pin = s.pin := rfl
@[simp] theorem State.setEval_cmdStrobe (s : State) (b : Bool) : (s.setEval b).cmdStrobe = s.cmdStrobe := rfl
@[simp] theorem State.setEval_cmdCode (s : State) (b : Bool) : (s.setEval b).cmdCode = s.cmdCode := rfl
@[simp] theorem State.setEval_hasReset (s : State) (b : Bool) : (s.setEval b).hasReset = s.hasReset := rfl
@[simp] theorem State.setEval_loc (s : State) (b : Bool) : (s.setEval b).loc = { s.loc with eval := b } := rfl
@[simp] theorem State.setEval_cfg (s : State) (b : Bool) : (s.setEval b).cfg = s.cfg := rfl
@[simp] theorem State.setEval_input (s : State) (b : Bool) : (s.setEval b).input = s.input := rfl
@[simp] theorem State.setEval_slot (s : State) (b : Bool) : (s.setEval b).slot = s.slot := rfl

/-! ### `State.setEncBit` -/

@[simp] theorem State.setEncBit_stable (s : State) (b : Bool) : (s.setEncBit b).stable = s.stable := rfl
@[simp] theorem State.setEncBit_dcount (s : State) (b : Bool) : (s.setEncBit b).dcount = s.dcount := rfl
@[simp] theorem State.setEncBit_armed (s : State) (b : Bool) : (s.setEncBit b).armed = s.armed := rfl
@[simp] theorem State.setEncBit_fout (s : State) (b : Bool) : (s.setEncBit b).fout = s.fout := rfl
@[simp] theorem State.setEncBit_prev (s : State) (b : Bool) : (s.setEncBit b).prev = s.prev := rfl
@[simp] theorem State.setEncBit_mode (s : State) (b : Bool) : (s.setEncBit b).mode = s.mode := rfl
@[simp] theorem State.setEncBit_txCmd (s : State) (b : Bool) : (s.setEncBit b).txCmd = s.txCmd := rfl
@[simp] theorem State.setEncBit_txPos (s : State) (b : Bool) : (s.setEncBit b).txPos = s.txPos := rfl
@[simp] theorem State.setEncBit_txVol (s : State) (b : Bool) : (s.setEncBit b).txVol = s.txVol := rfl
@[simp] theorem State.setEncBit_waitLeft (s : State) (b : Bool) : (s.setEncBit b).waitLeft = s.waitLeft := rfl
@[simp] theorem State.setEncBit_pin (s : State) (b : Bool) : (s.setEncBit b).pin = s.pin := rfl
@[simp] theorem State.setEncBit_cmdStrobe (s : State) (b : Bool) : (s.setEncBit b).cmdStrobe = s.cmdStrobe := rfl
@[simp] theorem State.setEncBit_cmdCode (s : State) (b : Bool) : (s.setEncBit b).cmdCode = s.cmdCode := rfl
@[simp] theorem State.setEncBit_hasReset (s : State) (b : Bool) : (s.setEncBit b).hasReset = s.hasReset := rfl
@[simp] theorem State.setEncBit_loc (s : State) (b : Bool) : (s.setEncBit b).loc = { s.loc with encBit := b } := rfl
@[simp] theorem State.setEncBit_cfg (s : State) (b : Bool) : (s.setEncBit b).cfg = s.cfg := rfl
@[simp] theorem State.setEncBit_input (s : State) (b : Bool) : (s.setEncBit b).input = s.input := rfl
@[simp] theorem State.setEncBit_slot (s : State) (b : Bool) : (s.setEncBit b).slot = s.slot := rfl

/-! ### `State.appendSeg` -/

@[simp] theorem State.appendSeg_stable (s : State) (b : Bool) (n : Nat) : (s.appendSeg b n).stable = s.stable := rfl
@[simp] theorem State.appendSeg_dcount (s : State) (b : Bool) (n : Nat) : (s.appendSeg b n).dcount = s.dcount := rfl
@[simp] theorem State.appendSeg_armed (s : State) (b : Bool) (n : Nat) : (s.appendSeg b n).armed = s.armed := rfl
@[simp] theorem State.appendSeg_fout (s : State) (b : Bool) (n : Nat) : (s.appendSeg b n).fout = s.fout := rfl
@[simp] theorem State.appendSeg_prev (s : State) (b : Bool) (n : Nat) : (s.appendSeg b n).prev = s.prev := rfl
@[simp] theorem State.appendSeg_mode (s : State) (b : Bool) (n : Nat) : (s.appendSeg b n).mode = s.mode := rfl
@[simp] theorem State.appendSeg_txCmd (s : State) (b : Bool) (n : Nat) : (s.appendSeg b n).txCmd = s.txCmd := rfl
@[simp] theorem State.appendSeg_txPos (s : State) (b : Bool) (n : Nat) : (s.appendSeg b n).txPos = s.txPos := rfl
@[simp] theorem State.appendSeg_txVol (s : State) (b : Bool) (n : Nat) : (s.appendSeg b n).txVol = s.txVol := rfl
@[simp] theorem State.appendSeg_waitLeft (s : State) (b : Bool) (n : Nat) : (s.appendSeg b n).waitLeft = s.waitLeft := rfl
@[simp] theorem State.appendSeg_pin (s : State) (b : Bool) (n : Nat) : (s.appendSeg b n).pin = s.pin := rfl
@[simp] theorem State.appendSeg_cmdStrobe (s : State) (b : Bool) (n : Nat) : (s.appendSeg b n).cmdStrobe = s.cmdStrobe := rfl
@[simp] theorem State.appendSeg_cmdCode (s : State) (b : Bool) (n : Nat) : (s.appendSeg b n).cmdCode = s.cmdCode := rfl
@[simp] theorem State.appendSeg_hasReset (s : State) (b : Bool) (n : Nat) : (s.appendSeg b n).hasReset = s.hasReset := rfl
@[simp] theorem State.appendSeg_loc (s : State) (b : Bool) (n : Nat) : (s.appendSeg b n).loc = { s.loc with wave := s.loc.wave ++ List.replicate n b } := rfl
@[simp] theorem State.appendSeg_cfg (s : State) (b : Bool) (n : Nat) : (s.appendSeg b n).cfg = s.cfg := rfl
@[simp] theorem State.appendSeg_input (s : State) (b : Bool) (n : Nat) : (s.appendSeg b n).input = s.input := rfl
@[simp] theorem State.appendSeg_slot (s : State) (b : Bool) (n : Nat) : (s.appendSeg b n).slot = s.slot := rfl

/-! ### `State.setDcount` -/

@[simp] theorem State.setDcount_stable (s : State) (n : Nat) : (s.setDcount n).stable = s.stable := rfl
@[simp] theorem State.setDcount_dcount (s : State) (n : Nat) : (s.setDcount n).dcount = BitVec.ofNat 16 n := rfl
@[simp] theorem State.setDcount_armed (s : State) (n : Nat) : (s.setDcount n).armed = s.armed := rfl
@[simp] theorem State.setDcount_fout (s : State) (n : Nat) : (s.setDcount n).fout = s.fout := rfl
@[simp] theorem State.setDcount_prev (s : State) (n : Nat) : (s.setDcount n).prev = s.prev := rfl
@[simp] theorem State.setDcount_mode (s : State) (n : Nat) : (s.setDcount n).mode = s.mode := rfl
@[simp] theorem State.setDcount_txCmd (s : State) (n : Nat) : (s.setDcount n).txCmd = s.txCmd := rfl
@[simp] theorem State.setDcount_txPos (s : State) (n : Nat) : (s.setDcount n).txPos = s.txPos := rfl
@[simp] theorem State.setDcount_txVol (s : State) (n : Nat) : (s.setDcount n).txVol = s.txVol := rfl
@[simp] theorem State.setDcount_waitLeft (s : State) (n : Nat) : (s.setDcount n).waitLeft = s.waitLeft := rfl
@[simp] theorem State.setDcount_pin (s : State) (n : Nat) : (s.setDcount n).pin = s.pin := rfl
@[simp] theorem State.setDcount_cmdStrobe (s : State) (n : Nat) : (s.setDcount n).cmdStrobe = s.cmdStrobe := rfl
@[simp] theorem State.setDcount_cmdCode (s : State) (n : Nat) : (s.setDcount n).cmdCode = s.cmdCode := rfl
@[simp] theorem State.setDcount_hasReset (s : State) (n : Nat) : (s.setDcount n).hasReset = s.hasReset := rfl
@[simp] theorem State.setDcount_loc (s : State) (n : Nat) : (s.setDcount n).loc = s.loc := rfl
@[simp] theorem State.setDcount_cfg (s : State) (n : Nat) : (s.setDcount n).cfg = s.cfg := rfl
@[simp] theorem State.setDcount_input (s : State) (n : Nat) : (s.setDcount n).input = s.input := rfl
@[simp] theorem State.setDcount_slot (s : State) (n : Nat) : (s.setDcount n).slot = s.slot := rfl

/-! ### `State.commit` -/

@[simp] theorem State.commit_stable (s : State) (c : SymCode) : (s.commit c).stable = c := rfl
@[simp] theorem State.commit_dcount (s : State) (c : SymCode) : (s.commit c).dcount = 0 := rfl
@[simp] theorem State.commit_armed (s : State) (c : SymCode) : (s.commit c).armed = s.armed := rfl
@[simp] theorem State.commit_fout (s : State) (c : SymCode) : (s.commit c).fout = s.fout := rfl
@[simp] theorem State.commit_prev (s : State) (c : SymCode) : (s.commit c).prev = s.prev := rfl
@[simp] theorem State.commit_mode (s : State) (c : SymCode) : (s.commit c).mode = s.mode := rfl
@[simp] theorem State.commit_txCmd (s : State) (c : SymCode) : (s.commit c).txCmd = s.txCmd := rfl
@[simp] theorem State.commit_txPos (s : State) (c : SymCode) : (s.commit c).txPos = s.txPos := rfl
@[simp] theorem State.commit_txVol (s : State) (c : SymCode) : (s.commit c).txVol = s.txVol := rfl
@[simp] theorem State.commit_waitLeft (s : State) (c : SymCode) : (s.commit c).waitLeft = s.waitLeft := rfl
@[simp] theorem State.commit_pin (s : State) (c : SymCode) : (s.commit c).pin = s.pin := rfl
@[simp] theorem State.commit_cmdStrobe (s : State) (c : SymCode) : (s.commit c).cmdStrobe = s.cmdStrobe := rfl
@[simp] theorem State.commit_cmdCode (s : State) (c : SymCode) : (s.commit c).cmdCode = s.cmdCode := rfl
@[simp] theorem State.commit_hasReset (s : State) (c : SymCode) : (s.commit c).hasReset = s.hasReset := rfl
@[simp] theorem State.commit_loc (s : State) (c : SymCode) : (s.commit c).loc = s.loc := rfl
@[simp] theorem State.commit_cfg (s : State) (c : SymCode) : (s.commit c).cfg = s.cfg := rfl
@[simp] theorem State.commit_input (s : State) (c : SymCode) : (s.commit c).input = s.input := rfl
@[simp] theorem State.commit_slot (s : State) (c : SymCode) : (s.commit c).slot = s.slot := rfl

/-! ### `State.setFout` -/

@[simp] theorem State.setFout_stable (s : State) (c : SymCode) : (s.setFout c).stable = s.stable := rfl
@[simp] theorem State.setFout_dcount (s : State) (c : SymCode) : (s.setFout c).dcount = s.dcount := rfl
@[simp] theorem State.setFout_armed (s : State) (c : SymCode) : (s.setFout c).armed = s.armed := rfl
@[simp] theorem State.setFout_fout (s : State) (c : SymCode) : (s.setFout c).fout = c := rfl
@[simp] theorem State.setFout_prev (s : State) (c : SymCode) : (s.setFout c).prev = s.prev := rfl
@[simp] theorem State.setFout_mode (s : State) (c : SymCode) : (s.setFout c).mode = s.mode := rfl
@[simp] theorem State.setFout_txCmd (s : State) (c : SymCode) : (s.setFout c).txCmd = s.txCmd := rfl
@[simp] theorem State.setFout_txPos (s : State) (c : SymCode) : (s.setFout c).txPos = s.txPos := rfl
@[simp] theorem State.setFout_txVol (s : State) (c : SymCode) : (s.setFout c).txVol = s.txVol := rfl
@[simp] theorem State.setFout_waitLeft (s : State) (c : SymCode) : (s.setFout c).waitLeft = s.waitLeft := rfl
@[simp] theorem State.setFout_pin (s : State) (c : SymCode) : (s.setFout c).pin = s.pin := rfl
@[simp] theorem State.setFout_cmdStrobe (s : State) (c : SymCode) : (s.setFout c).cmdStrobe = s.cmdStrobe := rfl
@[simp] theorem State.setFout_cmdCode (s : State) (c : SymCode) : (s.setFout c).cmdCode = s.cmdCode := rfl
@[simp] theorem State.setFout_hasReset (s : State) (c : SymCode) : (s.setFout c).hasReset = s.hasReset := rfl
@[simp] theorem State.setFout_loc (s : State) (c : SymCode) : (s.setFout c).loc = s.loc := rfl
@[simp] theorem State.setFout_cfg (s : State) (c : SymCode) : (s.setFout c).cfg = s.cfg := rfl
@[simp] theorem State.setFout_input (s : State) (c : SymCode) : (s.setFout c).input = s.input := rfl
@[simp] theorem State.setFout_slot (s : State) (c : SymCode) : (s.setFout c).slot = s.slot := rfl

/-! ### `State.setArmed` -/

@[simp] theorem State.setArmed_stable (s : State) (b : Bool) : (s.setArmed b).stable = s.stable := rfl
@[simp] theorem State.setArmed_dcount (s : State) (b : Bool) : (s.setArmed b).dcount = s.dcount := rfl
@[simp] theorem State.setArmed_armed (s : State) (b : Bool) : (s.setArmed b).armed = b := rfl
@[simp] theorem State.setArmed_fout (s : State) (b : Bool) : (s.setArmed b).fout = s.fout := rfl
@[simp] theorem State.setArmed_prev (s : State) (b : Bool) : (s.setArmed b).prev = s.prev := rfl
@[simp] theorem State.setArmed_mode (s : State) (b : Bool) : (s.setArmed b).mode = s.mode := rfl
@[simp] theorem State.setArmed_txCmd (s : State) (b : Bool) : (s.setArmed b).txCmd = s.txCmd := rfl
@[simp] theorem State.setArmed_txPos (s : State) (b : Bool) : (s.setArmed b).txPos = s.txPos := rfl
@[simp] theorem State.setArmed_txVol (s : State) (b : Bool) : (s.setArmed b).txVol = s.txVol := rfl
@[simp] theorem State.setArmed_waitLeft (s : State) (b : Bool) : (s.setArmed b).waitLeft = s.waitLeft := rfl
@[simp] theorem State.setArmed_pin (s : State) (b : Bool) : (s.setArmed b).pin = s.pin := rfl
@[simp] theorem State.setArmed_cmdStrobe (s : State) (b : Bool) : (s.setArmed b).cmdStrobe = s.cmdStrobe := rfl
@[simp] theorem State.setArmed_cmdCode (s : State) (b : Bool) : (s.setArmed b).cmdCode = s.cmdCode := rfl
@[simp] theorem State.setArmed_hasReset (s : State) (b : Bool) : (s.setArmed b).hasReset = s.hasReset := rfl
@[simp] theorem State.setArmed_loc (s : State) (b : Bool) : (s.setArmed b).loc = s.loc := rfl
@[simp] theorem State.setArmed_cfg (s : State) (b : Bool) : (s.setArmed b).cfg = s.cfg := rfl
@[simp] theorem State.setArmed_input (s : State) (b : Bool) : (s.setArmed b).input = s.input := rfl
@[simp] theorem State.setArmed_slot (s : State) (b : Bool) : (s.setArmed b).slot = s.slot := rfl

/-! ### `State.setMode` -/

@[simp] theorem State.setMode_stable (s : State) (m : ModeCode) : (s.setMode m).stable = s.stable := rfl
@[simp] theorem State.setMode_dcount (s : State) (m : ModeCode) : (s.setMode m).dcount = s.dcount := rfl
@[simp] theorem State.setMode_armed (s : State) (m : ModeCode) : (s.setMode m).armed = s.armed := rfl
@[simp] theorem State.setMode_fout (s : State) (m : ModeCode) : (s.setMode m).fout = s.fout := rfl
@[simp] theorem State.setMode_prev (s : State) (m : ModeCode) : (s.setMode m).prev = s.prev := rfl
@[simp] theorem State.setMode_mode (s : State) (m : ModeCode) : (s.setMode m).mode = m := rfl
@[simp] theorem State.setMode_txCmd (s : State) (m : ModeCode) : (s.setMode m).txCmd = s.txCmd := rfl
@[simp] theorem State.setMode_txPos (s : State) (m : ModeCode) : (s.setMode m).txPos = s.txPos := rfl
@[simp] theorem State.setMode_txVol (s : State) (m : ModeCode) : (s.setMode m).txVol = s.txVol := rfl
@[simp] theorem State.setMode_waitLeft (s : State) (m : ModeCode) : (s.setMode m).waitLeft = s.waitLeft := rfl
@[simp] theorem State.setMode_pin (s : State) (m : ModeCode) : (s.setMode m).pin = s.pin := rfl
@[simp] theorem State.setMode_cmdStrobe (s : State) (m : ModeCode) : (s.setMode m).cmdStrobe = s.cmdStrobe := rfl
@[simp] theorem State.setMode_cmdCode (s : State) (m : ModeCode) : (s.setMode m).cmdCode = s.cmdCode := rfl
@[simp] theorem State.setMode_hasReset (s : State) (m : ModeCode) : (s.setMode m).hasReset = s.hasReset := rfl
@[simp] theorem State.setMode_loc (s : State) (m : ModeCode) : (s.setMode m).loc = s.loc := rfl
@[simp] theorem State.setMode_cfg (s : State) (m : ModeCode) : (s.setMode m).cfg = s.cfg := rfl
@[simp] theorem State.setMode_input (s : State) (m : ModeCode) : (s.setMode m).input = s.input := rfl
@[simp] theorem State.setMode_slot (s : State) (m : ModeCode) : (s.setMode m).slot = s.slot := rfl

/-! ### `State.setTxPos` -/

@[simp] theorem State.setTxPos_stable (s : State) (n : Nat) : (s.setTxPos n).stable = s.stable := rfl
@[simp] theorem State.setTxPos_dcount (s : State) (n : Nat) : (s.setTxPos n).dcount = s.dcount := rfl
@[simp] theorem State.setTxPos_armed (s : State) (n : Nat) : (s.setTxPos n).armed = s.armed := rfl
@[simp] theorem State.setTxPos_fout (s : State) (n : Nat) : (s.setTxPos n).fout = s.fout := rfl
@[simp] theorem State.setTxPos_prev (s : State) (n : Nat) : (s.setTxPos n).prev = s.prev := rfl
@[simp] theorem State.setTxPos_mode (s : State) (n : Nat) : (s.setTxPos n).mode = s.mode := rfl
@[simp] theorem State.setTxPos_txCmd (s : State) (n : Nat) : (s.setTxPos n).txCmd = s.txCmd := rfl
@[simp] theorem State.setTxPos_txPos (s : State) (n : Nat) : (s.setTxPos n).txPos = BitVec.ofNat 9 n := rfl
@[simp] theorem State.setTxPos_txVol (s : State) (n : Nat) : (s.setTxPos n).txVol = s.txVol := rfl
@[simp] theorem State.setTxPos_waitLeft (s : State) (n : Nat) : (s.setTxPos n).waitLeft = s.waitLeft := rfl
@[simp] theorem State.setTxPos_pin (s : State) (n : Nat) : (s.setTxPos n).pin = s.pin := rfl
@[simp] theorem State.setTxPos_cmdStrobe (s : State) (n : Nat) : (s.setTxPos n).cmdStrobe = s.cmdStrobe := rfl
@[simp] theorem State.setTxPos_cmdCode (s : State) (n : Nat) : (s.setTxPos n).cmdCode = s.cmdCode := rfl
@[simp] theorem State.setTxPos_hasReset (s : State) (n : Nat) : (s.setTxPos n).hasReset = s.hasReset := rfl
@[simp] theorem State.setTxPos_loc (s : State) (n : Nat) : (s.setTxPos n).loc = s.loc := rfl
@[simp] theorem State.setTxPos_cfg (s : State) (n : Nat) : (s.setTxPos n).cfg = s.cfg := rfl
@[simp] theorem State.setTxPos_input (s : State) (n : Nat) : (s.setTxPos n).input = s.input := rfl
@[simp] theorem State.setTxPos_slot (s : State) (n : Nat) : (s.setTxPos n).slot = s.slot := rfl

/-! ### `State.setWaitLeft` -/

@[simp] theorem State.setWaitLeft_stable (s : State) (n : Nat) : (s.setWaitLeft n).stable = s.stable := rfl
@[simp] theorem State.setWaitLeft_dcount (s : State) (n : Nat) : (s.setWaitLeft n).dcount = s.dcount := rfl
@[simp] theorem State.setWaitLeft_armed (s : State) (n : Nat) : (s.setWaitLeft n).armed = s.armed := rfl
@[simp] theorem State.setWaitLeft_fout (s : State) (n : Nat) : (s.setWaitLeft n).fout = s.fout := rfl
@[simp] theorem State.setWaitLeft_prev (s : State) (n : Nat) : (s.setWaitLeft n).prev = s.prev := rfl
@[simp] theorem State.setWaitLeft_mode (s : State) (n : Nat) : (s.setWaitLeft n).mode = s.mode := rfl
@[simp] theorem State.setWaitLeft_txCmd (s : State) (n : Nat) : (s.setWaitLeft n).txCmd = s.txCmd := rfl
@[simp] theorem State.setWaitLeft_txPos (s : State) (n : Nat) : (s.setWaitLeft n).txPos = s.txPos := rfl
@[simp] theorem State.setWaitLeft_txVol (s : State) (n : Nat) : (s.setWaitLeft n).txVol = s.txVol := rfl
@[simp] theorem State.setWaitLeft_waitLeft (s : State) (n : Nat) : (s.setWaitLeft n).waitLeft = BitVec.ofNat 16 n := rfl
@[simp] theorem State.setWaitLeft_pin (s : State) (n : Nat) : (s.setWaitLeft n).pin = s.pin := rfl
@[simp] theorem State.setWaitLeft_cmdStrobe (s : State) (n : Nat) : (s.setWaitLeft n).cmdStrobe = s.cmdStrobe := rfl
@[simp] theorem State.setWaitLeft_cmdCode (s : State) (n : Nat) : (s.setWaitLeft n).cmdCode = s.cmdCode := rfl
@[simp] theorem State.setWaitLeft_hasReset (s : State) (n : Nat) : (s.setWaitLeft n).hasReset = s.hasReset := rfl
@[simp] theorem State.setWaitLeft_loc (s : State) (n : Nat) : (s.setWaitLeft n).loc = s.loc := rfl
@[simp] theorem State.setWaitLeft_cfg (s : State) (n : Nat) : (s.setWaitLeft n).cfg = s.cfg := rfl
@[simp] theorem State.setWaitLeft_input (s : State) (n : Nat) : (s.setWaitLeft n).input = s.input := rfl
@[simp] theorem State.setWaitLeft_slot (s : State) (n : Nat) : (s.setWaitLeft n).slot = s.slot := rfl

/-! ### `State.setPrev` -/

@[simp] theorem State.setPrev_stable (s : State) (c : SymCode) : (s.setPrev c).stable = s.stable := rfl
@[simp] theorem State.setPrev_dcount (s : State) (c : SymCode) : (s.setPrev c).dcount = s.dcount := rfl
@[simp] theorem State.setPrev_armed (s : State) (c : SymCode) : (s.setPrev c).armed = s.armed := rfl
@[simp] theorem State.setPrev_fout (s : State) (c : SymCode) : (s.setPrev c).fout = s.fout := rfl
@[simp] theorem State.setPrev_prev (s : State) (c : SymCode) : (s.setPrev c).prev = c := rfl
@[simp] theorem State.setPrev_mode (s : State) (c : SymCode) : (s.setPrev c).mode = s.mode := rfl
@[simp] theorem State.setPrev_txCmd (s : State) (c : SymCode) : (s.setPrev c).txCmd = s.txCmd := rfl
@[simp] theorem State.setPrev_txPos (s : State) (c : SymCode) : (s.setPrev c).txPos = s.txPos := rfl
@[simp] theorem State.setPrev_txVol (s : State) (c : SymCode) : (s.setPrev c).txVol = s.txVol := rfl
@[simp] theorem State.setPrev_waitLeft (s : State) (c : SymCode) : (s.setPrev c).waitLeft = s.waitLeft := rfl
@[simp] theorem State.setPrev_pin (s : State) (c : SymCode) : (s.setPrev c).pin = s.pin := rfl
@[simp] theorem State.setPrev_cmdStrobe (s : State) (c : SymCode) : (s.setPrev c).cmdStrobe = s.cmdStrobe := rfl
@[simp] theorem State.setPrev_cmdCode (s : State) (c : SymCode) : (s.setPrev c).cmdCode = s.cmdCode := rfl
@[simp] theorem State.setPrev_hasReset (s : State) (c : SymCode) : (s.setPrev c).hasReset = s.hasReset := rfl
@[simp] theorem State.setPrev_loc (s : State) (c : SymCode) : (s.setPrev c).loc = s.loc := rfl
@[simp] theorem State.setPrev_cfg (s : State) (c : SymCode) : (s.setPrev c).cfg = s.cfg := rfl
@[simp] theorem State.setPrev_input (s : State) (c : SymCode) : (s.setPrev c).input = s.input := rfl
@[simp] theorem State.setPrev_slot (s : State) (c : SymCode) : (s.setPrev c).slot = s.slot := rfl

/-! ### `State.clearStrobe` -/

@[simp] theorem State.clearStrobe_stable (s : State) : s.clearStrobe.stable = s.stable := rfl
@[simp] theorem State.clearStrobe_dcount (s : State) : s.clearStrobe.dcount = s.dcount := rfl
@[simp] theorem State.clearStrobe_armed (s : State) : s.clearStrobe.armed = s.armed := rfl
@[simp] theorem State.clearStrobe_fout (s : State) : s.clearStrobe.fout = s.fout := rfl
@[simp] theorem State.clearStrobe_prev (s : State) : s.clearStrobe.prev = s.prev := rfl
@[simp] theorem State.clearStrobe_mode (s : State) : s.clearStrobe.mode = s.mode := rfl
@[simp] theorem State.clearStrobe_txCmd (s : State) : s.clearStrobe.txCmd = s.txCmd := rfl
@[simp] theorem State.clearStrobe_txPos (s : State) : s.clearStrobe.txPos = s.txPos := rfl
@[simp] theorem State.clearStrobe_txVol (s : State) : s.clearStrobe.txVol = s.txVol := rfl
@[simp] theorem State.clearStrobe_waitLeft (s : State) : s.clearStrobe.waitLeft = s.waitLeft := rfl
@[simp] theorem State.clearStrobe_pin (s : State) : s.clearStrobe.pin = s.pin := rfl
@[simp] theorem State.clearStrobe_cmdStrobe (s : State) : s.clearStrobe.cmdStrobe = false := rfl
@[simp] theorem State.clearStrobe_cmdCode (s : State) : s.clearStrobe.cmdCode = s.cmdCode := rfl
@[simp] theorem State.clearStrobe_hasReset (s : State) : s.clearStrobe.hasReset = s.hasReset := rfl
@[simp] theorem State.clearStrobe_loc (s : State) : s.clearStrobe.loc = s.loc := rfl
@[simp] theorem State.clearStrobe_cfg (s : State) : s.clearStrobe.cfg = s.cfg := rfl
@[simp] theorem State.clearStrobe_input (s : State) : s.clearStrobe.input = s.input := rfl
@[simp] theorem State.clearStrobe_slot (s : State) : s.clearStrobe.slot = s.slot := rfl

/-! ### `State.emit` -/

@[simp] theorem State.emit_stable (s : State) (c : CmdCode) (v : Bool) : (s.emit c v).stable = s.stable := rfl
@[simp] theorem State.emit_dcount (s : State) (c : CmdCode) (v : Bool) : (s.emit c v).dcount = s.dcount := rfl
@[simp] theorem State.emit_armed (s : State) (c : CmdCode) (v : Bool) : (s.emit c v).armed = s.armed := rfl
@[simp] theorem State.emit_fout (s : State) (c : CmdCode) (v : Bool) : (s.emit c v).fout = s.fout := rfl
@[simp] theorem State.emit_prev (s : State) (c : CmdCode) (v : Bool) : (s.emit c v).prev = s.prev := rfl
@[simp] theorem State.emit_mode (s : State) (c : CmdCode) (v : Bool) : (s.emit c v).mode = modeTx := rfl
@[simp] theorem State.emit_txCmd (s : State) (c : CmdCode) (v : Bool) : (s.emit c v).txCmd = c := rfl
@[simp] theorem State.emit_txPos (s : State) (c : CmdCode) (v : Bool) : (s.emit c v).txPos = 0 := rfl
@[simp] theorem State.emit_txVol (s : State) (c : CmdCode) (v : Bool) : (s.emit c v).txVol = v := rfl
@[simp] theorem State.emit_waitLeft (s : State) (c : CmdCode) (v : Bool) : (s.emit c v).waitLeft = s.waitLeft := rfl
@[simp] theorem State.emit_pin (s : State) (c : CmdCode) (v : Bool) : (s.emit c v).pin = s.pin := rfl
@[simp] theorem State.emit_cmdStrobe (s : State) (c : CmdCode) (v : Bool) : (s.emit c v).cmdStrobe = true := rfl
@[simp] theorem State.emit_cmdCode (s : State) (c : CmdCode) (v : Bool) : (s.emit c v).cmdCode = c := rfl
@[simp] theorem State.emit_hasReset (s : State) (c : CmdCode) (v : Bool) : (s.emit c v).hasReset = s.hasReset := rfl
@[simp] theorem State.emit_loc (s : State) (c : CmdCode) (v : Bool) : (s.emit c v).loc = s.loc := rfl
@[simp] theorem State.emit_cfg (s : State) (c : CmdCode) (v : Bool) : (s.emit c v).cfg = s.cfg := rfl
@[simp] theorem State.emit_input (s : State) (c : CmdCode) (v : Bool) : (s.emit c v).input = s.input := rfl
@[simp] theorem State.emit_slot (s : State) (c : CmdCode) (v : Bool) : (s.emit c v).slot = s.slot := rfl

/-! ### `State.setPin` -/

@[simp] theorem State.setPin_stable (s : State) (b : Bool) : (s.setPin b).stable = s.stable := rfl
@[simp] theorem State.setPin_dcount (s : State) (b : Bool) : (s.setPin b).dcount = s.dcount := rfl
@[simp] theorem State.setPin_armed (s : State) (b : Bool) : (s.setPin b).armed = s.armed := rfl
@[simp] theorem State.setPin_fout (s : State) (b : Bool) : (s.setPin b).fout = s.fout := rfl
@[simp] theorem State.setPin_prev (s : State) (b : Bool) : (s.setPin b).prev = s.prev := rfl
@[simp] theorem State.setPin_mode (s : State) (b : Bool) : (s.setPin b).mode = s.mode := rfl
@[simp] theorem State.setPin_txCmd (s : State) (b : Bool) : (s.setPin b).txCmd = s.txCmd := rfl
@[simp] theorem State.setPin_txPos (s : State) (b : Bool) : (s.setPin b).txPos = s.txPos := rfl
@[simp] theorem State.setPin_txVol (s : State) (b : Bool) : (s.setPin b).txVol = s.txVol := rfl
@[simp] theorem State.setPin_waitLeft (s : State) (b : Bool) : (s.setPin b).waitLeft = s.waitLeft := rfl
@[simp] theorem State.setPin_pin (s : State) (b : Bool) : (s.setPin b).pin = b := rfl
@[simp] theorem State.setPin_cmdStrobe (s : State) (b : Bool) : (s.setPin b).cmdStrobe = s.cmdStrobe := rfl
@[simp] theorem State.setPin_cmdCode (s : State) (b : Bool) : (s.setPin b).cmdCode = s.cmdCode := rfl
@[simp] theorem State.setPin_hasReset (s : State) (b : Bool) : (s.setPin b).hasReset = s.hasReset := rfl
@[simp] theorem State.setPin_loc (s : State) (b : Bool) : (s.setPin b).loc = s.loc := rfl
@[simp] theorem State.setPin_cfg (s : State) (b : Bool) : (s.setPin b).cfg = s.cfg := rfl
@[simp] theorem State.setPin_input (s : State) (b : Bool) : (s.setPin b).input = s.input := rfl
@[simp] theorem State.setPin_slot (s : State) (b : Bool) : (s.setPin b).slot = s.slot := rfl

/-! ### `State.resetRegs` -/

@[simp] theorem State.resetRegs_stable (s : State) : s.resetRegs.stable = s.cfg.resetSym := rfl
@[simp] theorem State.resetRegs_dcount (s : State) : s.resetRegs.dcount = 0 := rfl
@[simp] theorem State.resetRegs_armed (s : State) : s.resetRegs.armed = true := rfl
@[simp] theorem State.resetRegs_fout (s : State) : s.resetRegs.fout = s.cfg.resetSym := rfl
@[simp] theorem State.resetRegs_prev (s : State) : s.resetRegs.prev = 0 := rfl
@[simp] theorem State.resetRegs_mode (s : State) : s.resetRegs.mode = modeReady := rfl
@[simp] theorem State.resetRegs_txCmd (s : State) : s.resetRegs.txCmd = 0 := rfl
@[simp] theorem State.resetRegs_txPos (s : State) : s.resetRegs.txPos = 0 := rfl
@[simp] theorem State.resetRegs_txVol (s : State) : s.resetRegs.txVol = false := rfl
@[simp] theorem State.resetRegs_waitLeft (s : State) : s.resetRegs.waitLeft = 0 := rfl
@[simp] theorem State.resetRegs_pin (s : State) : s.resetRegs.pin = true := rfl
@[simp] theorem State.resetRegs_cmdStrobe (s : State) : s.resetRegs.cmdStrobe = false := rfl
@[simp] theorem State.resetRegs_cmdCode (s : State) : s.resetRegs.cmdCode = 0 := rfl
@[simp] theorem State.resetRegs_hasReset (s : State) : s.resetRegs.hasReset = true := rfl
@[simp] theorem State.resetRegs_loc (s : State) : s.resetRegs.loc = TickLocal.idle := rfl
@[simp] theorem State.resetRegs_cfg (s : State) : s.resetRegs.cfg = s.cfg := rfl
@[simp] theorem State.resetRegs_input (s : State) : s.resetRegs.input = s.input := rfl
@[simp] theorem State.resetRegs_slot (s : State) : s.resetRegs.slot = s.slot := rfl

/-! ### `State.withInput` -/

@[simp] theorem State.withInput_stable (s : State) (ws : List StimWord) : (s.withInput ws).stable = s.stable := rfl
@[simp] theorem State.withInput_dcount (s : State) (ws : List StimWord) : (s.withInput ws).dcount = s.dcount := rfl
@[simp] theorem State.withInput_armed (s : State) (ws : List StimWord) : (s.withInput ws).armed = s.armed := rfl
@[simp] theorem State.withInput_fout (s : State) (ws : List StimWord) : (s.withInput ws).fout = s.fout := rfl
@[simp] theorem State.withInput_prev (s : State) (ws : List StimWord) : (s.withInput ws).prev = s.prev := rfl
@[simp] theorem State.withInput_mode (s : State) (ws : List StimWord) : (s.withInput ws).mode = s.mode := rfl
@[simp] theorem State.withInput_txCmd (s : State) (ws : List StimWord) : (s.withInput ws).txCmd = s.txCmd := rfl
@[simp] theorem State.withInput_txPos (s : State) (ws : List StimWord) : (s.withInput ws).txPos = s.txPos := rfl
@[simp] theorem State.withInput_txVol (s : State) (ws : List StimWord) : (s.withInput ws).txVol = s.txVol := rfl
@[simp] theorem State.withInput_waitLeft (s : State) (ws : List StimWord) : (s.withInput ws).waitLeft = s.waitLeft := rfl
@[simp] theorem State.withInput_pin (s : State) (ws : List StimWord) : (s.withInput ws).pin = s.pin := rfl
@[simp] theorem State.withInput_cmdStrobe (s : State) (ws : List StimWord) : (s.withInput ws).cmdStrobe = s.cmdStrobe := rfl
@[simp] theorem State.withInput_cmdCode (s : State) (ws : List StimWord) : (s.withInput ws).cmdCode = s.cmdCode := rfl
@[simp] theorem State.withInput_hasReset (s : State) (ws : List StimWord) : (s.withInput ws).hasReset = s.hasReset := rfl
@[simp] theorem State.withInput_loc (s : State) (ws : List StimWord) : (s.withInput ws).loc = s.loc := rfl
@[simp] theorem State.withInput_cfg (s : State) (ws : List StimWord) : (s.withInput ws).cfg = s.cfg := rfl
@[simp] theorem State.withInput_input (s : State) (ws : List StimWord) : (s.withInput ws).input = ws := rfl
@[simp] theorem State.withInput_slot (s : State) (ws : List StimWord) : (s.withInput ws).slot = s.slot := rfl

/-! ### `State.dropSlot` -/

@[simp] theorem State.dropSlot_stable (s : State) : s.dropSlot.stable = s.stable := rfl
@[simp] theorem State.dropSlot_dcount (s : State) : s.dropSlot.dcount = s.dcount := rfl
@[simp] theorem State.dropSlot_armed (s : State) : s.dropSlot.armed = s.armed := rfl
@[simp] theorem State.dropSlot_fout (s : State) : s.dropSlot.fout = s.fout := rfl
@[simp] theorem State.dropSlot_prev (s : State) : s.dropSlot.prev = s.prev := rfl
@[simp] theorem State.dropSlot_mode (s : State) : s.dropSlot.mode = s.mode := rfl
@[simp] theorem State.dropSlot_txCmd (s : State) : s.dropSlot.txCmd = s.txCmd := rfl
@[simp] theorem State.dropSlot_txPos (s : State) : s.dropSlot.txPos = s.txPos := rfl
@[simp] theorem State.dropSlot_txVol (s : State) : s.dropSlot.txVol = s.txVol := rfl
@[simp] theorem State.dropSlot_waitLeft (s : State) : s.dropSlot.waitLeft = s.waitLeft := rfl
@[simp] theorem State.dropSlot_pin (s : State) : s.dropSlot.pin = s.pin := rfl
@[simp] theorem State.dropSlot_cmdStrobe (s : State) : s.dropSlot.cmdStrobe = s.cmdStrobe := rfl
@[simp] theorem State.dropSlot_cmdCode (s : State) : s.dropSlot.cmdCode = s.cmdCode := rfl
@[simp] theorem State.dropSlot_hasReset (s : State) : s.dropSlot.hasReset = s.hasReset := rfl
@[simp] theorem State.dropSlot_loc (s : State) : s.dropSlot.loc = s.loc := rfl
@[simp] theorem State.dropSlot_cfg (s : State) : s.dropSlot.cfg = s.cfg := rfl
@[simp] theorem State.dropSlot_input (s : State) : s.dropSlot.input = s.input := rfl
@[simp] theorem State.dropSlot_slot (s : State) : s.dropSlot.slot = none := rfl

end Sys2Proof.Machine
end

