-- ==== Sys2Proof/Laws/Ops.lean ====
section
/-! SUPPORT. For each shared operation and each stage, one lemma that says what it can answer; cite these instead of unfolding. -/

namespace Sys2Proof.Machine

/-! ### Sequencing -/

@[simp] theorem andThen_next (s : State) (f : State → Result) : andThen (.next s) f = f s := rfl
@[simp] theorem andThen_fault (r : Fault) (f : State → Result) : andThen (.fault r) f = .fault r := rfl
@[simp] theorem andThen_refused (r : Refusal) (f : State → Result) : andThen (.refused r) f = .refused r := rfl

/-- A sequence goes on only through a next state of its first part. -/
theorem andThen_eq_next {o : Result} {f : State → Result} {t : State} :
    andThen o f = .next t ↔ ∃ s, o = .next s ∧ f s = .next t := by
  cases o <;> simp

/-- A sequence faults where its first part does or, after it, where its second part does. -/
theorem andThen_eq_fault {o : Result} {f : State → Result} {r : Fault} :
    andThen o f = .fault r ↔ o = .fault r ∨ ∃ s, o = .next s ∧ f s = .fault r := by
  cases o <;> simp

/-- Sequencing is associative. -/
theorem andThen_assoc (o : Result) (f g : State → Result) :
    andThen (andThen o f) g = andThen o fun s => andThen (f s) g := by
  cases o <;> rfl

/-! ### Mode codes are distinct -/

@[simp] theorem modeTx_ne_ready : ¬ modeTx = modeReady := by decide
@[simp] theorem modeWait_ne_ready : ¬ modeWait = modeReady := by decide
@[simp] theorem modeWait_ne_tx : ¬ modeWait = modeTx := by decide
@[simp] theorem modeTx_ne_wait : ¬ modeTx = modeWait := by decide
@[simp] theorem modeReady_ne_tx : ¬ modeReady = modeTx := by decide
@[simp] theorem modeReady_ne_wait : ¬ modeReady = modeWait := by decide

/-! ### Selector words: which operation the bits of a word select -/

theorem decodeCsel_bits (a b c d e f : Bool) :
    decodeCsel (BitVec.ofNat 6 (bitsVal [a, b, c, d, e, f])) =
      if a then .clsVolup else if b then .clsVoldn else if c then .clsSource else if d then .clsSeekf
      else if e then .clsSeekb else if f then .clsExtra else .clsIdle := by
  revert a b c d e f; decide

theorem decodeDsel_bits (thr eq : Bool) :
    decodeDsel (BitVec.ofNat 2 (bitsVal [thr, eq])) =
      if eq then .dbMatch else if thr then .dbCommit else .dbCount := by
  revert thr eq; decide

theorem decodeOsel_bits (armed isrst os : Bool) :
    decodeOsel (BitVec.ofNat 3 (bitsVal [armed, isrst, os])) =
      if os = false then .outCont else if isrst then .outRearm else if armed then .outShot else .outSupp := by
  revert armed isrst os; decide

theorem decodeSsel_bits (m : ModeCode) (last post0 : Bool) :
    decodeSsel (BitVec.ofNat 4 (bitsVal [m.getLsbD 0, m.getLsbD 1, last, post0])) =
      if m = modeReady then some .schEval
      else if m = modeTx then
        some (if last = false then .schTxAdv else if post0 then .schTxDoneEval else .schTxDoneWait)
      else if m = modeWait then some (if last then .schWaitDone else .schWaitDec)
      else none := by
  revert m last post0; decide

theorem decodePsel_bits (cur : SymCode) (edge hs : Bool) :
    decodePsel (BitVec.ofNat 5 (bitsVal [cur.getLsbD 0, cur.getLsbD 1, cur.getLsbD 2, edge, hs])) =
      if cur = 0 then some .dspIdle
      else if cur = 1 then some .dspVolup
      else if cur = 2 then some .dspVoldn
      else if cur = 3 then some (if edge then .dspSourceEdge else .dspSourceHold)
      else if cur = 4 then some (if edge then .dspSeekfFirst else if hs then .dspSeekfHeldSame else .dspSeekfHeld)
      else if cur = 5 then some (if edge then .dspSeekbFirst else if hs then .dspSeekbHeldSame else .dspSeekbHeld)
      else if cur = 6 then some (if edge then .dspExtraEdge else .dspExtraHold)
      else none := by
  revert cur edge hs; decide

/-! ### Stages -/

/-- The guard passes the state on unchanged, exactly when a reset has run. -/
theorem guardStage_eq_next {s t : State} : guardStage s = .next t ↔ s.hasReset = true ∧ t = s := by
  unfold guardStage
  split
  · rename_i h; simp [h, eq_comm]
  · rename_i h; simp [h]

/-- The classifier stage always goes on, and writes only this tick's symbol, a code of 0..6. -/
theorem classStage_next (s : State) : ∃ y : Symbol, classStage s = .next (s.setSym y.code) := by
  unfold classStage cselWord
  rw [decodeCsel_bits]
  split_ifs
  exacts [⟨.volUp, rfl⟩, ⟨.volDown, rfl⟩, ⟨.source, rfl⟩, ⟨.seekFwd, rfl⟩, ⟨.seekBack, rfl⟩, ⟨.extra, rfl⟩, ⟨.idle, rfl⟩]

/-- The filter step always goes on: match, count or commit. -/
theorem filterStage_eq (s : State) :
    filterStage s = .next (if s.loc.sym = s.stable then s.setDcount 0
      else if s.dcount.toNat + 1 < s.cfg.n then s.setDcount (s.dcount.toNat + 1) else s.commit s.loc.sym) := by
  unfold filterStage dselWord
  rw [decodeDsel_bits]
  by_cases he : s.loc.sym = s.stable
  · simp [State.eqBit, he, stageOp, execDbMatch]
  · by_cases ht : s.dcount.toNat + 1 < s.cfg.n
    · have : ¬ s.cfg.n ≤ s.dcount.toNat + 1 := by omega
      simp [State.eqBit, State.thrBit, he, ht, this, stageOp, execDbCount]
    · have : s.cfg.n ≤ s.dcount.toNat + 1 := by omega
      simp [State.eqBit, State.thrBit, he, ht, this, stageOp, execDbCommit]

/-- The output stage always goes on: continuous, re-arm, report or suppress. -/
theorem outputStage_eq (s : State) :
    outputStage s = .next (if s.cfg.oneshot = false then s.setFout s.stable
      else if s.stable = s.cfg.resetSym then (s.setFout s.stable).setArmed true
      else if s.armed = true then (s.setFout s.stable).setArmed false
      else s.setFout s.cfg.resetSym) := by
  unfold outputStage oselWord
  rw [decodeOsel_bits]
  rcases ho : s.cfg.oneshot <;> by_cases hr : s.stable = s.cfg.resetSym <;> rcases ha : s.armed <;>
    simp [State.isRst, ho, hr, ha, stageOp, execOutCont, execOutRearm, execOutShot, execOutSupp]

/-- What the scheduler stage can answer: one of the six operations' effects, nothing (a transmission position at or past the end,
which no run reaches), or the fault of mode 3. -/
theorem schedStage_eq (s : State) :
    schedStage s =
      if s.mode = modeReady then .next (s.setEval true)
      else if s.mode = modeTx then
        if s.txPos.toNat + 1 < txLen s.cfg.addr s.txCmd then .next ((s.setTxPos (s.txPos.toNat + 1)).setEval false)
        else if s.txPos.toNat + 1 = txLen s.cfg.addr s.txCmd then
          if post s.cfg s.txVol = 0 then .next ((s.setMode modeReady).setEval true)
          else .next (((s.setMode modeWait).setWaitLeft (post s.cfg s.txVol - 1)).setEval false)
        else .next s
      else if s.mode = modeWait then
        if s.waitLeft = 0 then .next ((s.setMode modeReady).setEval true)
        else .next ((s.setWaitLeft (s.waitLeft.toNat - 1)).setEval false)
      else .fault .reservedMode := by
  unfold schedStage sselWord
  rw [decodeSsel_bits]
  by_cases hr : s.mode = modeReady
  · simp [hr, stageOp, execSchEval]
  by_cases ht : s.mode = modeTx
  · by_cases hl : s.txPos.toNat + 1 = txLen s.cfg.addr s.txCmd
    · have hl' : ¬ s.txPos.toNat + 1 < txLen s.cfg.addr s.txCmd := by omega
      by_cases hp : post s.cfg s.txVol = 0
      · simp [State.lastBit, State.post0Bit, ht, hl, hp, stageOp, execSchTxDoneEval]
      · have : 0 < post s.cfg s.txVol := by omega
        simp [State.lastBit, State.post0Bit, ht, hl, hp, this, stageOp, execSchTxDoneWait]
    · by_cases hl' : s.txPos.toNat + 1 < txLen s.cfg.addr s.txCmd
      · simp [State.lastBit, ht, hl, hl', stageOp, execSchTxAdv]
      · simp [State.lastBit, ht, hl, hl', stageOp, execSchTxAdv]
  by_cases hw : s.mode = modeWait
  · by_cases h0 : s.waitLeft = 0#16
    · simp [State.lastBit, hw, h0, stageOp, execSchWaitDone]
    · have : 0 < s.waitLeft.toNat := by
        rcases Nat.eq_zero_or_pos s.waitLeft.toNat with h | h
        · exact absurd (BitVec.eq_of_toNat_eq h) h0
        · exact h
      simp [State.lastBit, hw, h0, this, stageOp, execSchWaitDec]
  simp [hr, ht, hw]

/-- What an evaluation can answer: the fault of symbol code 7, or `prev` recorded after the table's command, if any, is emitted. -/
theorem evaluate_eq (s : State) :
    evaluate s =
      if s.fout = 7 then .fault .reservedSymbol
      else match commandFor s.cfg s.prev s.fout with
        | some (c, v) => .next ((s.emit c v).setPrev s.fout)
        | none => .next (s.setPrev s.fout) := by
  unfold evaluate pselWord
  rw [decodePsel_bits]
  have key : ∀ f : SymCode, f = 0#3 ∨ f = 1#3 ∨ f = 2#3 ∨ f = 3#3 ∨ f = 4#3 ∨ f = 5#3 ∨ f = 6#3 ∨ f = 7#3 := by decide
  by_cases he : s.prev = s.fout
  · rcases key s.fout with h | h | h | h | h | h | h | h <;> rcases hs : s.cfg.heldSame <;>
      simp [commandFor, Symbol.code, State.edge, he, h, hs, stageOp, execDspIdle, execDspVolup, execDspVoldn,
        execDspSourceHold, execDspSeekfHeld, execDspSeekfHeldSame, execDspSeekbHeld, execDspSeekbHeldSame, execDspExtraHold]
  · have he' : ¬ s.fout = s.prev := fun h => he h.symm
    rcases key s.fout with h | h | h | h | h | h | h | h <;> rw [h] at he' <;>
      simp [commandFor, Symbol.code, State.edge, he', h, stageOp, execDspIdle, execDspVolup, execDspVoldn,
        execDspSourceEdge, execDspSeekfFirst, execDspSeekbFirst, execDspExtraEdge]

/-- The dispatcher stage clears the strobe and, on an evaluation tick, evaluates. -/
theorem dispatchStage_eq (s : State) :
    dispatchStage s = if s.loc.eval = true then evaluate s.clearStrobe else .next s.clearStrobe := rfl

/-! ### Waveform -/

/-- The levels a segment contributes (R190 to R195). -/
def segWave (g : Seg) : List Bool :=
  match g.kind with
  | 0 => [true]
  | 1 => List.replicate 16 false
  | 2 => List.replicate 8 true
  | 3 => [false]
  | 4 => [true]
  | 5 => if g.bit then [true, true] else []
  | _ => []

/-- The tick-local values after a segment: its levels appended, its bit value noted. -/
def State.played (s : State) (g : Seg) : State :=
  { s with loc := { s.loc with encBit := g.bit, wave := s.loc.wave ++ segWave g } }

/-- A segment of a defined type always plays, and writes nothing but the waveform and the bit value. -/
theorem playSeg_eq (g : Seg) (s : State) (h : g.kind.toNat ≤ 5) : playSeg g s = .next (s.played g) := by
  obtain ⟨k, b⟩ := g
  have key : ∀ k : BitVec 3, k.toNat ≤ 5 → k = 0 ∨ k = 1 ∨ k = 2 ∨ k = 3 ∨ k = 4 ∨ k = 5 := by decide
  rcases key k h with rfl | rfl | rfl | rfl | rfl | rfl <;> try rfl
  cases b
  · simp [playSeg, decodeEsel, stageOp, execEncExt, State.setEncBit, State.played, segWave]
  · rfl

/-- A list of segments of defined types plays whole: the waveform grows by their levels in list order. -/
theorem playSegs_eq (gs : List Seg) (s : State) (h : ∀ g ∈ gs, g.kind.toNat ≤ 5) :
    ∃ b, playSegs gs s = .next { s with loc := { s.loc with encBit := b, wave := s.loc.wave ++ gs.flatMap segWave } } := by
  induction gs generalizing s with
  | nil => exact ⟨s.loc.encBit, by simp [playSegs]⟩
  | cons g gs ih =>
    obtain ⟨b, hb⟩ := ih (s.played g) (fun x hx => h x (List.mem_cons_of_mem g hx))
    refine ⟨b, ?_⟩
    rw [playSegs, playSeg_eq g s (h g List.mem_cons_self), andThen_next, hb]
    simp [State.played]

/-- The bit segments have defined types. -/
theorem bitSegs_kind (b : Bool) : ∀ g ∈ bitSegs b, g.kind.toNat ≤ 5 := by
  revert b; decide

/-- A transmission is built of segments of defined types only (R197). -/
theorem txSegs_kind (addr c : CmdCode) : ∀ g ∈ txSegs addr c, g.kind.toNat ≤ 5 := by
  intro g hg
  simp only [txSegs, frameRepeats, List.replicate, List.flatten_cons, List.flatten_nil, List.append_nil, List.mem_append,
    frameSegs, field7Segs, List.mem_flatMap] at hg
  have hh : ∀ g ∈ headerSegs, g.kind.toNat ≤ 5 := by decide
  rcases hg with h | h | h <;> rcases h with ((((h | h) | ⟨_, _, h⟩) | ⟨_, _, h⟩) | h) | h <;>
    first | exact hh g h | exact bitSegs_kind _ g h

/-- What the pin stage does: it always goes on, writes `pin` and tick-local values only, and in TX drives the waveform tick
`tx_pos`, or the free level past the end; it meets no reserved segment. -/
theorem pinStage_eq (s : State) (hw : s.loc.wave = []) :
    ∃ b, pinStage s = if s.mode = modeTx then
        .next { s with
          pin := ((txSegs s.cfg.addr s.txCmd).flatMap segWave)[s.txPos.toNat]?.getD
            (Config.levelPastEnd s.cfg.addr s.txCmd s.txPos)
          loc := { s.loc with encBit := b, wave := (txSegs s.cfg.addr s.txCmd).flatMap segWave } }
      else .next (s.setPin true) := by
  obtain ⟨b, hb⟩ := playSegs_eq (txSegs s.cfg.addr s.txCmd) s (txSegs_kind _ _)
  refine ⟨b, ?_⟩
  unfold pinStage
  by_cases ht : s.mode = modeTx
  · rw [if_pos ht, if_pos ht, hb, andThen_next, hw, List.nil_append]
    rfl
  · rw [if_neg ht, if_neg ht]

/-! ### Whole operations -/

/-- Inside a tick and as an instruction on its own, a stage operation means the same. -/
theorem stageOp_eq_exec (i : Instr) (s : State) (h : i.row.fmt ≠ .stim) : stageOp i s = exec i s := by
  cases i <;> first | rfl | exact absurd rfl h

/-- A tick that goes on is its stages one after the other (R150). -/
theorem execOpTick_eq_next {raw : RawSample} {s t : State} :
    execOpTick raw s = .next t ↔
      s.hasReset = true ∧ ∃ s1 s2 s3 s4 s5 s6,
        schedStage (s.latch raw) = .next s1 ∧ classStage s1 = .next s2 ∧ filterStage s2 = .next s3 ∧
        outputStage s3 = .next s4 ∧ dispatchStage s4 = .next s5 ∧ pinStage s5 = .next s6 ∧ t = s6.clearLoc := by
  simp only [execOpTick, andThen_eq_next, guardStage_eq_next]
  constructor
  · rintro ⟨_, ⟨h, rfl⟩, s1, h1, s2, h2, s3, h3, s4, h4, s5, h5, s6, h6, h7⟩
    exact ⟨h, s1, s2, s3, s4, s5, s6, h1, h2, h3, h4, h5, h6, by simpa using h7.symm⟩
  · rintro ⟨h, s1, s2, s3, s4, s5, s6, h1, h2, h3, h4, h5, h6, rfl⟩
    exact ⟨_, ⟨h, rfl⟩, s1, h1, s2, h2, s3, h3, s4, h4, s5, h5, s6, h6, rfl⟩

/-- What one step can do (R21, R22, R75, R227, R8). -/
theorem step_eq (s : State) :
    step s = if s.cfg.legal = false then .refused .illegalConfig
      else match s.slot, s.input with
        | some i, _ => exec i s.dropSlot
        | none, [] => .next s
        | none, w :: ws => match decodeStim w with
          | none => .refused .reservedStimulus
          | some i => exec i (s.withInput ws) := by
  unfold step
  split
  · rfl
  · cases s.slot <;> cases s.input <;> rfl

/-- A stimulus word spells OP_RESET or OP_TICK, or nothing (R75). -/
theorem decodeStim_cases {w : BitVec 16} {i : Instr} (h : decodeStim w = some i) :
    i = .opReset ∨ ∃ raw, i = .opTick raw := by
  unfold decodeStim at h
  split at h
  · exact .inl (by simpa using h.symm)
  · split at h
    · exact .inr ⟨_, by simpa using h.symm⟩
    · cases h

/-- The word of `TICK raw` decodes to OP_TICK on that sample (R75, R87). -/
@[simp] theorem decodeStim_tickWord (raw : RawSample) : decodeStim (tickWord raw) = some (.opTick raw) := by
  revert raw; decide +kernel

/-- `runSteps` takes one more step at its end. -/
theorem runSteps_succ (k : Nat) (s : State) : runSteps (k + 1) s = andThen (runSteps k s) step := by
  induction k generalizing s with
  | zero => cases h : step s <;> simp [runSteps, h]
  | succ k ih =>
    rw [runSteps]
    cases h : step s with
    | next t => rw [andThen_next, ih, runSteps, h, andThen_next]
    | fault r => simp [runSteps, h]
    | refused r => simp [runSteps, h]

/-- The host's run takes its first step with `step`. -/
theorem run_succ (k : Nat) (s : State) :
    Host.Core.run Sys2Proof.core (k + 1) s = andThen (step s) fun t => Host.Core.run Sys2Proof.core k t := by
  rw [Host.Core.run.eq_2 Sys2Proof.core s k]
  generalize hx : Sys2Proof.core.step s = o
  have hy : step s = o := hx
  rw [hy]
  cases o <;> rfl

/-- `runSteps` is the host's run of the machine. -/
theorem runSteps_eq_run (k : Nat) (s : State) : runSteps k s = Host.Core.run Sys2Proof.core k s := by
  induction k generalizing s with
  | zero => rfl
  | succ k ih => rw [run_succ, runSteps, funext ih]

end Sys2Proof.Machine
end

