-- ==== Sys2Proof/Laws/PerInstr.lean ====
section
/-! SUPPORT. The per-instruction family `EncodingRow`: the word that encodes an instruction is selected by the instruction's own row
of the opcode table (30_encoding.md rules R74 to R81). -/

namespace Sys2Proof.Laws.EncodingRow

/-- The encoded word has the row's format and carries the row's match value under the row's mask. -/
def Statement (i : Instr) : Prop := i.row.selects (encode i) = true

theorem opReset : Statement .opReset := by unfold Statement; decide
theorem opTick (raw : RawSample) : Statement (.opTick raw) := by
  revert raw; unfold Statement; decide +kernel
theorem clsVolup : Statement .clsVolup := by unfold Statement; decide
theorem clsVoldn : Statement .clsVoldn := by unfold Statement; decide
theorem clsSource : Statement .clsSource := by unfold Statement; decide
theorem clsSeekf : Statement .clsSeekf := by unfold Statement; decide
theorem clsSeekb : Statement .clsSeekb := by unfold Statement; decide
theorem clsExtra : Statement .clsExtra := by unfold Statement; decide
theorem clsIdle : Statement .clsIdle := by unfold Statement; decide
theorem dbMatch : Statement .dbMatch := by unfold Statement; decide
theorem dbCount : Statement .dbCount := by unfold Statement; decide
theorem dbCommit : Statement .dbCommit := by unfold Statement; decide
theorem outCont : Statement .outCont := by unfold Statement; decide
theorem outRearm : Statement .outRearm := by unfold Statement; decide
theorem outShot : Statement .outShot := by unfold Statement; decide
theorem outSupp : Statement .outSupp := by unfold Statement; decide
theorem schEval : Statement .schEval := by unfold Statement; decide
theorem schTxAdv : Statement .schTxAdv := by unfold Statement; decide
theorem schTxDoneEval : Statement .schTxDoneEval := by unfold Statement; decide
theorem schTxDoneWait : Statement .schTxDoneWait := by unfold Statement; decide
theorem schWaitDec : Statement .schWaitDec := by unfold Statement; decide
theorem schWaitDone : Statement .schWaitDone := by unfold Statement; decide
theorem dspIdle : Statement .dspIdle := by unfold Statement; decide
theorem dspVolup : Statement .dspVolup := by unfold Statement; decide
theorem dspVoldn : Statement .dspVoldn := by unfold Statement; decide
theorem dspSourceEdge : Statement .dspSourceEdge := by unfold Statement; decide
theorem dspSourceHold : Statement .dspSourceHold := by unfold Statement; decide
theorem dspSeekfFirst : Statement .dspSeekfFirst := by unfold Statement; decide
theorem dspSeekfHeld : Statement .dspSeekfHeld := by unfold Statement; decide
theorem dspSeekfHeldSame : Statement .dspSeekfHeldSame := by unfold Statement; decide
theorem dspSeekbFirst : Statement .dspSeekbFirst := by unfold Statement; decide
theorem dspSeekbHeld : Statement .dspSeekbHeld := by unfold Statement; decide
theorem dspSeekbHeldSame : Statement .dspSeekbHeldSame := by unfold Statement; decide
theorem dspExtraEdge : Statement .dspExtraEdge := by unfold Statement; decide
theorem dspExtraHold : Statement .dspExtraHold := by unfold Statement; decide
theorem encBusrst : Statement .encBusrst := by unfold Statement; decide
theorem encAgcLow : Statement .encAgcLow := by unfold Statement; decide
theorem encAgcHigh : Statement .encAgcHigh := by unfold Statement; decide
theorem encMark : Statement .encMark := by unfold Statement; decide
theorem encSpace : Statement .encSpace := by unfold Statement; decide
theorem encExt : Statement .encExt := by unfold Statement; decide

end Sys2Proof.Laws.EncodingRow
end

