-- ==== Sys2Proof/Tests/Slice0.lean ====
section
/-! SUPPORT. The model's own tests. Expected results are those of the tables of 95_test_vectors.md (EX1 to EX4, sections 3.1 to 3.7)
and of the encodings of 30_encoding.md; the witnesses at the end show that the hypotheses of each statement can be met. -/

namespace Sys2Proof.Tests

open Sys2Proof.Machine

/-- The next state, where there is one. -/
def nextState : Result → Option State
  | .next t => some t
  | _ => none

/-- The fault, where there is one. -/
def faultOf : Result → Option Fault
  | .fault r => some r
  | _ => none

/-- The refusal, where there is one. -/
def refusalOf : Result → Option Refusal
  | .refused r => some r
  | _ => none

theorem next_of_isSome {r : Result} (h : (nextState r).isSome = true) : ∃ t, r = .next t := by
  cases r <;> simp_all [nextState]

/-- The next state has property `p`. -/
def nextHas (r : Result) (p : State → Bool) : Bool := (nextState r).elim false p

def ex1Os : Config := { Config.ex1 with oneshot := true }
def ex1Hs : Config := { Config.ex1 with heldSame := true }
def ex1Excl : Config := { Config.ex1 with edges := .exclusive }
def ex3 : Config := { Config.ex1 with volUp := ⟨100, 60⟩, volDown := ⟨150, 60⟩ }
def ex4 : Config := { Config.ex1 with volUp := ⟨10, 20⟩, source := ⟨300, 0⟩, extra := ⟨1010, 20⟩ }

/-- The state after reset under EX1, with one stimulus word pending. -/
def ready (w : StimWord) : State := { State.resetOf .ex1 with input := [w] }

/-- A transmission under EX1: command, position, volume mark, pin level. -/
def inTx (cmd : CmdCode) (pos : BitVec 9) (vol pin : Bool) : State :=
  { State.resetOf .ex1 with mode := modeTx, txCmd := cmd, txPos := pos, txVol := vol, pin := pin }

/-! ### Well-formedness: each check refuses its ill-formed term -/

theorem test_ex1_legal : Config.ex1.legal = true ∧ Config.ex2.legal = true := by decide
theorem test_center_too_big : { Config.ex1 with volUp := ⟨1024, 20⟩ }.legal = false := by decide
theorem test_tol_too_big : { Config.ex1 with extra := ⟨600, 1024⟩ }.legal = false := by decide
theorem test_window_zero : { Config.ex1 with n := 0 }.legal = false := by decide
theorem test_window_too_long : { Config.ex1 with n := 65536 }.legal = false := by decide
theorem test_wait_too_long : { Config.ex1 with repeatWait := 65535, resumeGap := 1 }.legal = false := by decide
theorem test_reset_symbol_seven : { Config.ex1 with resetSym := 7 }.legal = false := by decide
theorem test_reserved_stim : (OpWord.stim 0x0400).wellFormed = false ∧ (OpWord.stim 0x7C00).wellFormed = false := by decide
theorem test_reserved_ssel : (OpWord.ssel 0b0011).wellFormed = false ∧ decode (.ssel 0b0011) = none := by decide
theorem test_reserved_psel : (OpWord.psel 0b01111).wellFormed = false ∧ decode (.psel 0b01111) = none := by decide
theorem test_reserved_esel : (OpWord.esel 6).wellFormed = false ∧ decode (.esel 7) = none := by decide

/-! ### Decoding: words written out from R74 to R81, don't-care bits set where the row has them -/

theorem test_decode_stim :
    decode (.stim 0xFFFF) = some .opReset ∧ decode (.stim 0x8000) = some .opReset ∧
    decode (.stim 0x012C) = some (.opTick 300) ∧ decode (.stim 0x03FF) = some (.opTick 1023) ∧
    decode (.stim 0x0400) = none ∧ decode (.stim 0x7C00) = none := by decide

theorem test_decode_csel :
    decode (.csel 0b111111) = some .clsVolup ∧ decode (.csel 0b111110) = some .clsVoldn ∧
    decode (.csel 0b111100) = some .clsSource ∧ decode (.csel 0b111000) = some .clsSeekf ∧
    decode (.csel 0b110000) = some .clsSeekb ∧ decode (.csel 0b100000) = some .clsExtra ∧
    decode (.csel 0b000000) = some .clsIdle := by decide

theorem test_decode_dsel :
    decode (.dsel 0b11) = some .dbMatch ∧ decode (.dsel 0b10) = some .dbMatch ∧ decode (.dsel 0b00) = some .dbCount ∧
    decode (.dsel 0b01) = some .dbCommit := by decide

theorem test_decode_osel :
    decode (.osel 0b011) = some .outCont ∧ decode (.osel 0b001) = some .outCont ∧ decode (.osel 0b111) = some .outRearm ∧
    decode (.osel 0b101) = some .outShot ∧ decode (.osel 0b100) = some .outSupp := by decide

theorem test_decode_ssel :
    decode (.ssel 0b0000) = some .schEval ∧ decode (.ssel 0b0001) = some .schTxAdv ∧
    decode (.ssel 0b1001) = some .schTxAdv ∧ decode (.ssel 0b1101) = some .schTxDoneEval ∧
    decode (.ssel 0b0101) = some .schTxDoneWait ∧ decode (.ssel 0b0010) = some .schWaitDec ∧
    decode (.ssel 0b0110) = some .schWaitDone := by decide

theorem test_decode_psel :
    decode (.psel 0b01000) = some .dspIdle ∧ decode (.psel 0b01001) = some .dspVolup ∧
    decode (.psel 0b01010) = some .dspVoldn ∧ decode (.psel 0b01011) = some .dspSourceEdge ∧
    decode (.psel 0b10011) = some .dspSourceHold ∧ decode (.psel 0b11100) = some .dspSeekfFirst ∧
    decode (.psel 0b00100) = some .dspSeekfHeld ∧ decode (.psel 0b10100) = some .dspSeekfHeldSame ∧
    decode (.psel 0b01101) = some .dspSeekbFirst ∧ decode (.psel 0b00101) = some .dspSeekbHeld ∧
    decode (.psel 0b10101) = some .dspSeekbHeldSame ∧ decode (.psel 0b01110) = some .dspExtraEdge ∧
    decode (.psel 0b00110) = some .dspExtraHold := by decide

theorem test_decode_esel :
    decode (.esel 0b000) = some .encBusrst ∧ decode (.esel 0b001) = some .encAgcLow ∧
    decode (.esel 0b010) = some .encAgcHigh ∧ decode (.esel 0b011) = some .encMark ∧
    decode (.esel 0b100) = some .encSpace ∧ decode (.esel 0b101) = some .encExt := by decide

theorem test_table_has_41_rows : opcodeTable.length = 41 := by decide

theorem test_table_word_stim :
    decodeTableWord 16 0x8000 = some .opReset ∧ decodeTableWord 16 0x0064 = some (.opTick 100) ∧
    decodeTableWord 16 0x0400 = none := by decide

theorem test_fetch_word_runs_reset :
    nextState (step (State.reset.withFetchWord 16 0x8000)) = some State.reset := by decide +kernel

theorem test_fetch_word_runs_probe :
    nextHas (step (State.reset.withFetchWord 8 0b000100)) (fun t => t.loc.sym == Symbol.source.code) = true := by decide

/-! ### Section 3.1: the classifier, through its selector word and operation -/

/-- The symbol the classifier stage writes. -/
def classified (c : Config) (raw : RawSample) : Option SymCode :=
  (nextState (classStage ((State.resetOf c).latch raw))).map fun t => t.loc.sym

theorem test_classifier_ex1_inclusive :
    [0, 79, 80, 81, 100, 119, 120, 121, 180, 185, 220, 300, 380, 420, 510, 580, 600, 620, 621, 1000, 1023].map
        (fun r => classified .ex1 (BitVec.ofNat 10 r)) =
      [0, 0, 1, 1, 1, 1, 1, 0, 2, 2, 2, 3, 4, 4, 5, 6, 6, 6, 0, 0, 0].map some := by decide

theorem test_classifier_ex1_exclusive :
    [0, 79, 80, 81, 100, 119, 120, 121, 180, 185, 220, 300, 380, 420, 510, 580, 600, 620, 621, 1000, 1023].map
        (fun r => classified ex1Excl (BitVec.ofNat 10 r)) =
      [0, 0, 0, 1, 1, 1, 0, 0, 0, 2, 0, 3, 0, 0, 5, 0, 6, 0, 0, 0, 0].map some := by decide

theorem test_classifier_ex3 :
    [39, 40, 90, 150, 160, 161, 210, 211].map (fun r => classified ex3 (BitVec.ofNat 10 r)) =
      [0, 1, 1, 1, 1, 2, 2, 0].map some ∧
    [39, 40, 90, 150, 160, 161, 210, 211].map (fun r => classified { ex3 with edges := .exclusive } (BitVec.ofNat 10 r)) =
      [0, 0, 1, 1, 2, 2, 0, 0].map some := by decide

theorem test_classifier_ex4 :
    [0, 5, 30, 300, 301, 1023].map (fun r => classified ex4 (BitVec.ofNat 10 r)) = [1, 1, 1, 3, 0, 6].map some ∧
    [0, 5, 30, 300, 301, 1023].map (fun r => classified { ex4 with edges := .exclusive } (BitVec.ofNat 10 r)) =
      [0, 1, 0, 0, 0, 6].map some := by decide

/-! ### Section 3.2: the filter step -/

/-- The filter operation selected, and `stable` and `dcount` after it. -/
def filtered (n : Nat) (stable : SymCode) (dcount : BitVec 16) (y : SymCode) : Instr × Option (SymCode × BitVec 16) :=
  let s := { State.resetOf { Config.ex1 with n := n } with stable := stable, dcount := dcount }.setSym y
  (decodeDsel (dselWord s), (nextState (filterStage s)).map fun t => (t.stable, t.dcount))

theorem test_filter_match : filtered 4 0 3 0 = (.dbMatch, some (0, 0)) ∧ filtered 4 0 0 0 = (.dbMatch, some (0, 0)) := by decide
theorem test_filter_count :
    filtered 4 0 2 4 = (.dbCount, some (0, 3)) ∧ filtered 65535 0 65533 1 = (.dbCount, some (0, 65534)) := by decide
theorem test_filter_commit :
    filtered 4 0 3 3 = (.dbCommit, some (3, 0)) ∧ filtered 1 4 0 0 = (.dbCommit, some (0, 0)) ∧
    filtered 65535 0 65534 1 = (.dbCommit, some (1, 0)) := by decide

/-! ### Section 3.3: the output stage -/

/-- The output operation selected, and `fout` and `armed` after it. -/
def reported (oneshot : Bool) (stable : SymCode) (armed : Bool) : Instr × Option (SymCode × Bool) :=
  let s := { State.resetOf { Config.ex1 with oneshot := oneshot } with stable := stable, armed := armed, fout := 6 }
  (decodeOsel (oselWord s), (nextState (outputStage s)).map fun t => (t.fout, t.armed))

theorem test_output_continuous :
    reported false 1 true = (.outCont, some (1, true)) ∧ reported false 0 true = (.outCont, some (0, true)) := by decide
theorem test_output_rearm :
    reported true 0 false = (.outRearm, some (0, true)) ∧ reported true 0 true = (.outRearm, some (0, true)) := by decide
theorem test_output_shot : reported true 3 true = (.outShot, some (3, false)) := by decide
theorem test_output_suppressed : reported true 3 false = (.outSupp, some (0, false)) := by decide

/-! ### Section 3.4: the scheduler -/

/-- The scheduler operation selected, and `mode`, `tx_pos`, `wait_left`, `eval` after it. -/
def scheduled (s : State) : Option Instr × Option (ModeCode × BitVec 9 × BitVec 16 × Bool) :=
  (decodeSsel (sselWord s), (nextState (schedStage s)).map fun t => (t.mode, t.txPos, t.waitLeft, t.loc.eval))

theorem test_sched_eval : scheduled (State.resetOf .ex1) = (some .schEval, some (0, 0, 0, true)) := by decide
theorem test_sched_adv :
    [inTx 1 0 false true, inTx 1 223 false true, inTx 3 224 false true].map scheduled =
      [(some .schTxAdv, some (1, 1, 0, false)), (some .schTxAdv, some (1, 224, 0, false)),
        (some .schTxAdv, some (1, 225, 0, false))] := by decide
theorem test_sched_done_eval :
    scheduled (inTx 1 224 false true) = (some .schTxDoneEval, some (0, 224, 0, true)) ∧
    scheduled (inTx 3 230 false true) = (some .schTxDoneEval, some (0, 230, 0, true)) := by decide
theorem test_sched_done_wait :
    [inTx 1 224 true true, { inTx 1 224 true true with cfg := .ex2 },
        { inTx 1 224 false true with cfg := { Config.ex1 with resumeGap := 1 } }].map scheduled =
      [(some .schTxDoneWait, some (2, 224, 4, false)), (some .schTxDoneWait, some (2, 224, 399, false)),
        (some .schTxDoneWait, some (2, 224, 0, false))] := by decide
theorem test_sched_wait_dec :
    scheduled { State.resetOf .ex1 with mode := modeWait, waitLeft := 4 } = (some .schWaitDec, some (2, 0, 3, false)) := by
  decide
theorem test_sched_wait_done :
    scheduled { State.resetOf .ex1 with mode := modeWait } = (some .schWaitDone, some (0, 0, 0, true)) := by decide
theorem test_sched_reserved_mode :
    faultOf (schedStage { State.resetOf .ex1 with mode := 3 }) = some .reservedMode := by decide

/-! ### Section 3.5: the dispatcher -/

/-- The dispatcher operation selected, and the emission (code and volume mark) and `prev` after the evaluation. -/
def dispatched (c : Config) (cur prev : SymCode) : Option Instr × Option (Option (CmdCode × Bool) × SymCode) :=
  let s := { State.resetOf c with fout := cur, prev := prev }
  (decodePsel (pselWord s),
    (nextState (evaluate s)).map fun t => (if t.cmdStrobe then some (t.cmdCode, t.txVol) else none, t.prev))

theorem test_dispatch_idle : dispatched .ex1 0 3 = (some .dspIdle, some (none, 0)) := by decide
theorem test_dispatch_volup :
    dispatched .ex1 1 0 = (some .dspVolup, some (some (0x01, true), 1)) ∧
    dispatched .ex1 1 1 = (some .dspVolup, some (some (0x01, true), 1)) := by decide
theorem test_dispatch_voldn : dispatched .ex1 2 1 = (some .dspVoldn, some (some (0x02, true), 2)) := by decide
theorem test_dispatch_source :
    dispatched .ex1 3 0 = (some .dspSourceEdge, some (some (0x03, false), 3)) ∧
    dispatched .ex1 3 3 = (some .dspSourceHold, some (none, 3)) := by decide
theorem test_dispatch_seekf :
    [dispatched .ex1 4 0, dispatched ex1Hs 4 5, dispatched .ex1 4 4, dispatched ex1Hs 4 4] =
      [(some .dspSeekfFirst, some (some (0x10, false), 4)), (some .dspSeekfFirst, some (some (0x10, false), 4)),
        (some .dspSeekfHeld, some (some (0x11, false), 4)),
        (some .dspSeekfHeldSame, some (some (0x10, false), 4))] := by decide
theorem test_dispatch_seekb :
    [dispatched .ex1 5 0, dispatched .ex1 5 5, dispatched ex1Hs 5 5] =
      [(some .dspSeekbFirst, some (some (0x20, false), 5)), (some .dspSeekbHeld, some (some (0x21, false), 5)),
        (some .dspSeekbHeldSame, some (some (0x20, false), 5))] := by decide
theorem test_dispatch_extra :
    dispatched .ex1 6 0 = (some .dspExtraEdge, some (some (0x7F, false), 6)) ∧
    dispatched .ex1 6 6 = (some .dspExtraHold, some (none, 6)) := by decide
theorem test_dispatch_reserved_symbol :
    faultOf (evaluate { State.resetOf .ex1 with fout := 7 }) = some .reservedSymbol := by decide

/-! ### Section 3.6: the encoder -/

/-- The levels the segment operations of a frame append, for `ADDR = 0x47`, as 0s and 1s. -/
def frameOf (c : CmdCode) : Option (List Nat) :=
  (nextState (playSegs (frameSegs 0x47 c) (State.resetOf .ex1))).map fun t => t.loc.wave.map Bool.toNat

/-- The header, start bit and address of every frame with `ADDR = 0x47` (51 ticks). -/
def frameHead : List Nat :=
  [1,0,0,0,0,0,0,0,0,0,0,0,0,0,0,0,0,1,1,1,1,1,1,1,1,0,1,1,1,0,1,1,1,0,1,1,1,0,1,1,1,0,1,0,1,0,1,0,1,1,1]

theorem test_frame_0x01 :
    frameOf 0x01 = some (frameHead ++ [0,1,1,1,0,1,0,1,0,1,0,1,0,1,0,1] ++ [0,1,1,1,0,1,1,1]) := by decide +kernel
theorem test_frame_0x10 :
    frameOf 0x10 = some (frameHead ++ [0,1,0,1,0,1,0,1,0,1,1,1,0,1,0,1] ++ [0,1,1,1,0,1,1,1]) := by decide +kernel
theorem test_frame_0x7f :
    frameOf 0x7F = some (frameHead ++ [0,1,1,1,0,1,1,1,0,1,1,1,0,1,1,1,0,1,1,1,0,1,1,1,0,1,1,1] ++ [0,1,1,1,0,1,1,1]) := by
  decide +kernel
theorem test_ext_of_a_zero_bit :
    nextHas (exec .encExt (State.resetOf .ex1)) (fun t => t.loc.wave == []) = true ∧
    nextHas (exec .encExt ((State.resetOf .ex1).setEncBit true)) (fun t => t.loc.wave == [true, true]) = true := by decide
theorem test_reserved_segment : faultOf (playSeg ⟨6, false⟩ State.reset) = some .reservedSegment := by decide

/-! ### Section 3.7: whole ticks -/

theorem test_t1_not_reset : faultOf (step { ready 0x03E8 with hasReset := false }) = some .notReset := by decide +kernel
theorem test_t3_reset_ignores_low_bits :
    nextState (step { ready 0xFFFF with hasReset := false, stable := 7, mode := 3, pin := false, dcount := 9 }) =
      some (State.resetOf .ex1) := by decide +kernel
theorem test_t4_reserved_stimulus : refusalOf (step (ready 0x0400)) = some .reservedStimulus := by decide +kernel
theorem test_t6_quiet_tick : nextState (step (ready 0x03FF)) = some (State.resetOf .ex1) := by decide +kernel
theorem test_t7_commit_and_emit :
    nextHas (step { ready 0x012C with dcount := 3 }) (fun t =>
      t.stable == 3 && t.fout == 3 && t.mode == modeTx && t.txCmd == 3 && t.txPos == 0 && t.cmdStrobe && t.cmdCode == 3 &&
        t.prev == 3 && t.pin) = true := by decide +kernel
theorem test_t8_held_seek :
    nextHas (step { inTx 0x10 224 false true with stable := 4, fout := 4, prev := 4, input := [0x0190] }) (fun t =>
      t.mode == modeTx && t.txCmd == 0x11 && t.txPos == 0 && t.cmdStrobe && t.pin) = true := by decide +kernel
theorem test_t9_reset_cuts_transmission :
    nextHas (step { inTx 1 10 false false with input := [0x8000] }) (fun t =>
      t.mode == modeReady && t.txPos == 0 && t.pin) = true := by decide +kernel
theorem test_t10_busy_tick :
    nextHas (step { inTx 3 3 false false with stable := 3, fout := 3, prev := 3, dcount := 3, input := [0x03E8] }) (fun t =>
      t.txPos == 4 && t.stable == 0 && t.fout == 0 && t.prev == 3 && !t.pin) = true := by decide +kernel
theorem test_reset_does_not_clear_a_fault :
    faultOf (runSteps 2 { ready 0x03E8 with hasReset := false, input := [0x03E8, 0x8000] }) = some .notReset := by
  decide +kernel
theorem test_no_tick_holds_state :
    nextState (step (inTx 1 10 false false)) = some (inTx 1 10 false false) := by decide +kernel
theorem test_illegal_config_refused :
    refusalOf (step { ready 0x8000 with cfg := { Config.ex1 with n := 0 } }) = some .illegalConfig := by decide
theorem test_position_past_the_waveform_goes_on :
    nextHas (step { inTx 1 300 false true with input := [0x03E8] }) (fun t =>
      t.mode == modeTx && t.txPos == 300 && !t.cmdStrobe) = true := by decide +kernel
theorem test_stimulus_statements :
    [StimStmt.reset, .tick 300, .hold .seekFwd 2, .idle 1].flatMap (StimStmt.words .ex1 1000) =
      [0x8000, 0x012C, 0x0190, 0x0190, 0x03E8] := by decide
theorem test_debounce_ticks :
    debounceTicks 527 0 = 1 ∧ debounceTicks 527 1 = 2 ∧ debounceTicks 527 2 = 4 ∧ debounceTicks 527 527 = 1000 := by decide

/-! ### Witnesses: the hypotheses of each statement can be met together -/

/-- A reset state with pending samples. -/
def readyFor (c : Config) (raws : List RawSample) : State := { State.resetOf c with input := raws.map tickWord }

/-- The state right after the emission of `cmd` for the stable symbol `y` under `c`, with pending samples. -/
def emittedFor (c : Config) (y : SymCode) (cmd : CmdCode) (vol : Bool) (raws : List RawSample) : State :=
  { State.resetOf c with
    stable := y, fout := y, prev := y, mode := modeTx, txCmd := cmd, txVol := vol, cmdStrobe := true, cmdCode := cmd,
    input := raws.map tickWord }

/-- The reset state of EX1 with any stimulus words pending. -/
def pending (ws : List StimWord) : State := { State.resetOf .ex1 with input := ws }

theorem inv_pending (ws : List StimWord) : (pending ws).Inv := by
  constructor <;> (try dsimp only [pending]) <;> decide

theorem inv_readyFor_ex1 (raws : List RawSample) : (readyFor .ex1 raws).Inv := by
  constructor <;> (try dsimp only [readyFor]) <;> decide

theorem inv_emitted_volup (raws : List RawSample) : (emittedFor .ex1 1 1 true raws).Inv := by
  constructor <;> (try dsimp only [emittedFor]) <;> decide

theorem inv_emitted_seekf (raws : List RawSample) : (emittedFor .ex1 4 0x10 false raws).Inv := by
  constructor <;> (try dsimp only [emittedFor]) <;> decide

theorem inv_emitted_seekb_hs (raws : List RawSample) : (emittedFor ex1Hs 5 0x20 false raws).Inv := by
  constructor <;> (try dsimp only [emittedFor]) <;> decide

theorem inv_emitted_oneshot (raws : List RawSample) : { emittedFor ex1Os 1 1 true raws with armed := false }.Inv := by
  constructor <;> (try dsimp only [emittedFor]) <;> decide

theorem forall_replicate {n : Nat} {a : RawSample} {p : RawSample → Prop} (h : p a) : ∀ r ∈ List.replicate n a, p r := by
  intro r hr; rw [List.eq_of_mem_replicate hr]; exact h

theorem witness_StimulusWordDecoding :
    (0x8000#16).getLsbD 15 = true ∧ ((0x03FF#16).getLsbD 15 = false ∧ (0x03FF#16).extractLsb' 10 5 = 0) ∧
    ((0x0400#16).getLsbD 15 = false ∧ (0x0400#16).extractLsb' 10 5 ≠ 0 ∧
      (ready 0x0400).cfg.legal = true ∧ (ready 0x0400).slot = none ∧ (ready 0x0400).input = [0x0400]) := by decide

theorem witness_StepRunsDecodedOperation :
    (ready 0x012C).cfg.legal = true ∧ (ready 0x012C).slot = none ∧ (ready 0x012C).input = 0x012C :: [] ∧
    decodeStim 0x012C = some (.opTick 300) := by decide

theorem witness_WithoutTickStateIsHeld :
    State.reset.cfg.legal = true ∧ State.reset.slot = none ∧ State.reset.input = [] := by decide

theorem witness_ProbeSlotRunsItsOperation :
    { State.reset with slot := some .dbCommit }.cfg.legal = true ∧
    { State.reset with slot := some .dbCommit }.slot = some .dbCommit := by decide

theorem witness_IllegalConfigurationRunsNothing :
    { State.reset with cfg := { Config.ex1 with n := 65536 } }.cfg.legal = false ∧ Config.ex1.cal .extra = some ⟨600, 20⟩ := by
  decide

theorem witness_RunsKeepConfiguration : ∃ t, runSteps 1 (ready 0x03E8) = .next t ∧ (ready 0x03E8).hasReset = true := by
  obtain ⟨t, h⟩ := next_of_isSome (r := runSteps 1 (ready 0x03E8)) (by decide +kernel)
  exact ⟨t, h, rfl⟩

/-- An OP_TICK and then a reset word pending; the OP_TICK is the one that faults. -/
def faulting (s : State) : State := { s with input := [tickWord 1000, 0x8000] }

theorem witness_FaultsAndRefusalsAreFinal_faults :
    ([faulting { State.reset with hasReset := false }, faulting { State.reset with mode := 3 },
        faulting { State.reset with stable := 7 }].all fun s =>
      s.cfg.legal && s.slot.isNone && (s.input == tickWord 1000 :: [0x8000])) = true ∧
    (faulting { State.reset with hasReset := false }).hasReset = false ∧
    ((faulting { State.reset with mode := 3 }).hasReset = true ∧ (faulting { State.reset with mode := 3 }).mode = 3) ∧
    ((faulting { State.reset with stable := 7 }).hasReset = true ∧
      (faulting { State.reset with stable := 7 }).evaluates = true ∧
      (filterTick State.reset.cfg (faulting { State.reset with stable := 7 }).filter 1000).fout = 7) := by decide

theorem witness_FaultsAndRefusalsAreFinal_refusal :
    (pending ([0x03E8, 0x8000] ++ 0x0400 :: [0x8000])).Inv ∧
    (pending ([0x03E8, 0x8000] ++ 0x0400 :: [0x8000])).input = [0x03E8, 0x8000] ++ 0x0400 :: [0x8000] ∧
    (∀ v ∈ ([0x03E8, 0x8000] : List StimWord), v.getLsbD 15 = true ∨ v.extractLsb' 10 5 = 0) ∧
    (0x0400#16).getLsbD 15 = false ∧ (0x0400#16).extractLsb' 10 5 ≠ 0 := by
  refine ⟨inv_pending _, rfl, fun v hv => ?_, by decide, by decide⟩
  rcases List.mem_pair.mp hv with rfl | rfl
  · exact .inr (by decide)
  · exact .inl (by decide)

theorem witness_TickCompletesUnderInvariant : (readyFor .ex1 []).Inv ∧ (emittedFor .ex1 1 1 true []).Inv :=
  ⟨inv_readyFor_ex1 [], inv_emitted_volup []⟩

theorem witness_FaultChecksInStageOrder :
    { State.reset with hasReset := false }.hasReset = false ∧
    ({ State.reset with mode := 3 }.hasReset = true ∧ { State.reset with mode := 3 }.mode = 3) ∧
    ({ State.reset with stable := 7 }.hasReset = true ∧ { State.reset with stable := 7 }.evaluates = true ∧
      (filterTick State.reset.cfg { State.reset with stable := 7 }.filter 0).fout = 7) ∧
    (State.reset.hasReset = true ∧ State.reset.mode ≠ 3 ∧
      (State.reset.evaluates = true → (filterTick State.reset.cfg State.reset.filter 0).fout ≠ 7)) := by decide

theorem witness_ResetStateSummary : (inTx 1 10 true false).cfg.resetSym = Symbol.idle.code := by decide

theorem witness_HeldResetIsIdempotent : ∃ t, exec .opReset (inTx 1 10 true false) = .next t := ⟨_, rfl⟩

theorem witness_WindowMembership :
    Config.ex1.cal .volUp = some ⟨100, 20⟩ ∧ Config.ex1.edges = .inclusive ∧
    ex1Excl.cal .volUp = some ⟨100, 20⟩ ∧ ex1Excl.edges = .exclusive := by decide

theorem witness_OverlapResolvedByPriority :
    classify ex3 160 = .volUp ∧ classify { ex3 with edges := .exclusive } 160 = .volDown ∧ classify ex3 211 = .idle ∧
    Symbol.volUp ≠ .idle := by decide

theorem witness_FilterStepSelectsAndRuns :
    ((State.resetOf .ex1).cfg.legal = true ∧ (State.resetOf .ex1).loc.sym = (State.resetOf .ex1).stable) ∧
    ({ State.resetOf .ex1 with stable := 1, dcount := 2 }.loc.sym ≠ 1 ∧ (2#16).toNat + 1 < Config.ex1.n) ∧
    ({ State.resetOf .ex1 with stable := 1, dcount := 3 }.loc.sym ≠ 1 ∧ ¬ (3#16).toNat + 1 < Config.ex1.n) := by decide

theorem witness_OutputStageSelectsAndRuns :
    (State.resetOf .ex1).cfg.oneshot = false ∧
    ((State.resetOf ex1Os).cfg.oneshot = true ∧ (State.resetOf ex1Os).stable = (State.resetOf ex1Os).cfg.resetSym) ∧
    ({ State.resetOf ex1Os with stable := 3 }.stable ≠ ex1Os.resetSym ∧ (State.resetOf ex1Os).armed = true) ∧
    ({ State.resetOf ex1Os with stable := 3, armed := false }.stable ≠ ex1Os.resetSym) := by decide

theorem witness_FilterRunsAtEveryTick : ∃ t, exec (.opTick 1000) (inTx 3 3 false false) = .next t :=
  next_of_isSome (by decide +kernel)

theorem witness_DebounceTicksIsLeastCount : 0 < tickUs ∧ 1 ≤ 4 ∧ 2 * 1000 ≤ 4 * tickUs := by decide

theorem witness_UniformInputCommitsOnTime :
    let s := readyFor .ex1 (List.replicate 5 300)
    s.Inv ∧ s.input = (List.replicate 5 300).map tickWord ∧ (∀ r ∈ List.replicate 5 300, classify s.cfg r = .source) ∧
    Symbol.source.code ≠ s.stable ∧ 5 ≤ (List.replicate 5 300 : List RawSample).length :=
  ⟨inv_readyFor_ex1 _, rfl, forall_replicate (by decide), by decide, by decide⟩

theorem witness_ShortGlitchLeavesStable :
    let s := readyFor .ex1 (List.replicate 3 400 ++ [1000])
    s.Inv ∧ s.input = (List.replicate 3 400 ++ [1000]).map tickWord ∧
    (∀ r ∈ List.replicate 3 400, (classify s.cfg r).code ≠ s.stable) ∧
    s.dcount.toNat + (List.replicate 3 400 : List RawSample).length < s.cfg.n ∧
    (classify s.cfg 1000).code = s.stable :=
  ⟨inv_readyFor_ex1 _, rfl, forall_replicate (by decide), by decide, by decide⟩

theorem witness_StableChangesOnlyAfterFullWindow :
    (readyFor .ex1 ([100, 100, 100] ++ [300])).Inv ∧ (readyFor .ex1 ([100, 100, 100] ++ [300])).dcount = 0 ∧
    (readyFor .ex1 ([100, 100, 100] ++ [300])).input = ([100, 100, 100] ++ [300]).map tickWord ∧
    ∃ u t, runSteps 3 (readyFor .ex1 ([100, 100, 100] ++ [300])) = .next u ∧ step u = .next t ∧ t.stable ≠ u.stable := by
  refine ⟨inv_readyFor_ex1 _, rfl, rfl, ?_⟩
  obtain ⟨u, hu⟩ := next_of_isSome (r := runSteps 3 (readyFor .ex1 ([100, 100, 100] ++ [300]))) (by decide +kernel)
  obtain ⟨t, ht⟩ := next_of_isSome (r := runSteps 4 (readyFor .ex1 ([100, 100, 100] ++ [300]))) (by decide +kernel)
  have hs : ∀ u t, nextState (runSteps 3 (readyFor .ex1 ([100, 100, 100] ++ [300]))) = some u →
      nextState (runSteps 4 (readyFor .ex1 ([100, 100, 100] ++ [300]))) = some t → t.stable ≠ u.stable := by
    have h1 : (nextState (runSteps 3 (readyFor .ex1 ([100, 100, 100] ++ [300])))).map State.stable = some 0 := by
      decide +kernel
    have h2 : (nextState (runSteps 4 (readyFor .ex1 ([100, 100, 100] ++ [300])))).map State.stable = some 3 := by
      decide +kernel
    intro u t hu ht
    rw [hu] at h1; rw [ht] at h2
    simp only [Option.map_some, Option.some.injEq] at h1 h2
    rw [h1, h2]; decide
  refine ⟨u, t, hu, ?_, hs u t (by rw [hu]; rfl) (by rw [ht]; rfl)⟩
  rw [runSteps_succ, hu, andThen_next] at ht
  exact ht

theorem witness_SchedulerSelectsAndRuns :
    (State.resetOf .ex1).mode = modeReady ∧
    ((inTx 1 0 false true).mode = modeTx ∧ (0#9).toNat + 1 < txLen 0x47 1 ∧ (223#9).toNat + 1 < txLen 0x47 1) ∧
    ((224#9).toNat + 1 = txLen 0x47 1 ∧ post Config.ex1 false = 0) ∧
    (0 < post Config.ex1 true ∧ Config.ex1.legal = true) ∧
    ({ State.resetOf .ex1 with mode := modeWait, waitLeft := 1 }.mode = modeWait ∧ 0 < (1#16).toNat) ∧
    ({ State.resetOf .ex1 with mode := modeWait }.mode = modeWait ∧ (State.resetOf .ex1).waitLeft = 0) := by decide

theorem witness_EmissionSchedule :
    let s := emittedFor .ex1 1 1 true (List.replicate 230 1000)
    s.Inv ∧ s.mode = modeTx ∧ s.txPos = 0 ∧ s.input = (List.replicate 230 1000).map tickWord ∧
    (List.replicate 230 1000 : List RawSample).length = txLen s.cfg.addr s.txCmd + post s.cfg s.txVol ∧
    txLen s.cfg.addr s.txCmd ≤ 225 ∧ 225 < (List.replicate 230 1000 : List RawSample).length :=
  ⟨inv_emitted_volup _, rfl, rfl, rfl, by rw [List.length_replicate]; decide, by decide,
    by rw [List.length_replicate]; decide⟩

theorem witness_BusyTickIgnoresInput :
    (inTx 3 3 false false).mainRegs = { inTx 3 3 false false with stable := 5, dcount := 2 }.mainRegs ∧
    (inTx 3 3 false false).evaluates = false ∧
    (nextState (exec (.opTick 1000) (inTx 3 3 false false))).isSome = true ∧
    (nextState (exec (.opTick 100) { inTx 3 3 false false with stable := 5, dcount := 2 })).isSome = true := by
  decide +kernel

theorem witness_DispatcherSelectsAndRuns :
    { State.reset with fout := 0 }.fout = Symbol.idle.code ∧ { State.reset with fout := 1 }.fout = Symbol.volUp.code ∧
    { State.reset with fout := 2 }.fout = Symbol.volDown.code ∧
    ({ State.reset with fout := 3 }.fout = Symbol.source.code ∧ (3 : SymCode) ≠ State.reset.prev) ∧
    ({ State.reset with fout := 3, prev := 3 }.fout = { State.reset with fout := 3, prev := 3 }.prev) ∧
    ({ State.reset with fout := 6 }.fout = Symbol.extra.code ∧ (6 : SymCode) ≠ State.reset.prev) ∧
    ({ State.reset with fout := 6, prev := 6 }.fout = { State.reset with fout := 6, prev := 6 }.prev) := by decide

theorem witness_SeekDispatcherSelectsAndRuns :
    ({ State.reset with fout := 4 }.fout = Symbol.seekFwd.code ∧ (4 : SymCode) ≠ State.reset.prev) ∧
    ({ State.reset with fout := 4, prev := 4 }.prev = Symbol.seekFwd.code ∧ State.reset.cfg.heldSame = false) ∧
    ({ State.resetOf ex1Hs with fout := 4, prev := 4 }.prev = Symbol.seekFwd.code ∧ ex1Hs.heldSame = true) ∧
    ({ State.reset with fout := 5 }.fout = Symbol.seekBack.code ∧ (5 : SymCode) ≠ State.reset.prev) ∧
    ({ State.reset with fout := 5, prev := 5 }.prev = Symbol.seekBack.code) ∧
    ({ State.resetOf ex1Hs with fout := 5, prev := 5 }.prev = Symbol.seekBack.code) := by decide

theorem witness_EvaluationRecordsPrevious :
    (State.reset.evaluates = true ∧ ∃ t, exec (.opTick 1000) State.reset = .next t) ∧
    ((inTx 3 3 false false).evaluates = false ∧ ∃ t, exec (.opTick 1000) (inTx 3 3 false false) = .next t) :=
  ⟨⟨by decide, next_of_isSome (by decide +kernel)⟩, ⟨by decide, next_of_isSome (by decide +kernel)⟩⟩

theorem witness_EvaluationSendsTableCommand :
    (∃ t, exec (.opTick 100) { State.reset with stable := 1, fout := 1 } = .next t ∧
      commandFor State.reset.cfg State.reset.prev 1 = some (0x01, true)) ∧
    (∃ t, exec (.opTick 1000) State.reset = .next t ∧ commandFor State.reset.cfg State.reset.prev 0 = none) ∧
    State.reset.evaluates = true := by
  obtain ⟨t, h⟩ := next_of_isSome (r := exec (.opTick 100) { State.reset with stable := 1, fout := 1 }) (by decide +kernel)
  obtain ⟨u, g⟩ := next_of_isSome (r := exec (.opTick 1000) State.reset) (by decide +kernel)
  exact ⟨⟨t, h, by decide⟩, ⟨u, g, by decide⟩, by decide⟩

theorem witness_PressLatency :
    let s := readyFor .ex1 (List.replicate 4 300 ++ [300])
    s.Inv ∧ s.cfg.oneshot = false ∧ s.mode = modeReady ∧ s.stable = Symbol.idle.code ∧ s.prev = Symbol.idle.code ∧
    s.dcount = 0 ∧ Symbol.source ≠ .idle ∧ (∀ r ∈ List.replicate 4 300, classify s.cfg r = .source) ∧
    (List.replicate 4 300 : List RawSample).length = s.cfg.n ∧ s.input = (List.replicate 4 300 ++ [300]).map tickWord :=
  ⟨inv_readyFor_ex1 _, rfl, rfl, rfl, rfl, rfl, by decide, forall_replicate (by decide), rfl, rfl⟩

theorem witness_VolumeCadence :
    let s := emittedFor .ex1 1 1 true (List.replicate 460 100)
    s.Inv ∧ s.cfg.oneshot = false ∧ s.mode = modeTx ∧ s.txPos = 0 ∧ s.txVol = true ∧ s.txCmd = s.cfg.cmdVolup ∧
    s.cmdStrobe = true ∧ s.cmdCode = s.cfg.cmdVolup ∧ s.waitLeft = 0 ∧ s.dcount = 0 ∧
    s.stable = Symbol.volUp.code ∧ s.prev = Symbol.volUp.code ∧
    (∀ r ∈ List.replicate 460 100, classify s.cfg r = .volUp) ∧ s.input = (List.replicate 460 100).map tickWord ∧
    (List.replicate 460 100 : List RawSample).length =
      2 * (txLen s.cfg.addr s.cfg.cmdVolup + s.cfg.repeatWait.toNat + s.cfg.resumeGap.toNat) :=
  ⟨inv_emitted_volup _, rfl, rfl, rfl, rfl, rfl, rfl, rfl, rfl, rfl, rfl, rfl, forall_replicate (by decide), rfl,
    by rw [List.length_replicate]; decide⟩

theorem witness_HeldSeekCadence :
    (let s := emittedFor .ex1 4 0x10 false (List.replicate 456 400);
      s.Inv ∧ s.cfg.oneshot = false ∧ s.cfg.resumeGap = 0 ∧ s.mode = modeTx ∧ s.txPos = 0 ∧ s.txVol = false ∧
      0x10 = s.cfg.cmdSeekfFirst ∧ 0x11 = (if s.cfg.heldSame = true then s.cfg.cmdSeekfFirst else s.cfg.cmdSeekfHeld) ∧
      s.txCmd = 0x10 ∧ s.dcount = 0 ∧ s.stable = Symbol.seekFwd.code ∧ s.prev = Symbol.seekFwd.code ∧
      (∀ r ∈ List.replicate 456 400, classify s.cfg r = .seekFwd) ∧ s.input = (List.replicate 456 400).map tickWord ∧
      (List.replicate 456 400 : List RawSample).length = txLen s.cfg.addr 0x10 + 1 * txLen s.cfg.addr 0x11) ∧
    (let s := emittedFor ex1Hs 5 0x20 false (List.replicate 450 500);
      s.Inv ∧ s.cfg.oneshot = false ∧ s.cfg.resumeGap = 0 ∧ s.mode = modeTx ∧ s.txPos = 0 ∧ s.txVol = false ∧
      0x20 = s.cfg.cmdSeekbFirst ∧ 0x20 = (if s.cfg.heldSame = true then s.cfg.cmdSeekbFirst else s.cfg.cmdSeekbHeld) ∧
      s.txCmd = 0x20 ∧ s.dcount = 0 ∧ s.stable = Symbol.seekBack.code ∧ s.prev = Symbol.seekBack.code ∧
      (∀ r ∈ List.replicate 450 500, classify s.cfg r = .seekBack) ∧ s.input = (List.replicate 450 500).map tickWord ∧
      (List.replicate 450 500 : List RawSample).length = txLen s.cfg.addr 0x20 + 1 * txLen s.cfg.addr 0x20) :=
  ⟨⟨inv_emitted_seekf _, rfl, rfl, rfl, rfl, rfl, rfl, by decide, rfl, rfl, rfl, rfl, forall_replicate (by decide), rfl,
      by rw [List.length_replicate]; decide⟩,
    ⟨inv_emitted_seekb_hs _, rfl, rfl, rfl, rfl, rfl, rfl, by decide, rfl, rfl, rfl, rfl, forall_replicate (by decide), rfl,
      by rw [List.length_replicate]; decide⟩⟩

theorem witness_OneShotHoldSendsOnce :
    let s : State := { emittedFor ex1Os 1 1 true (List.replicate 300 100) with armed := false }
    s.Inv ∧ s.cfg.oneshot = true ∧ s.cfg.resetSym = Symbol.idle.code ∧ s.mode = modeTx ∧ s.txPos = 0 ∧ s.armed = false ∧
    s.dcount = 0 ∧ Symbol.volUp ≠ .idle ∧ s.stable = Symbol.volUp.code ∧
    (∀ r ∈ List.replicate 300 100, classify s.cfg r = .volUp) ∧ s.input = (List.replicate 300 100).map tickWord :=
  ⟨inv_emitted_oneshot _, rfl, rfl, rfl, rfl, rfl, rfl, by decide, rfl, forall_replicate (by decide), rfl⟩

theorem witness_FrameLayout : (2 : Nat) < 3 ∧ 74 < frameLen 0x47 0x01 := by decide

theorem witness_PinDrivesTheWaveform :
    (nextState (exec (.opTick 1000) (inTx 3 3 false false))).map State.mode = some modeTx ∧
    (nextState (exec (.opTick 1000) State.reset)).map State.mode = some modeReady := by decide +kernel

theorem witness_OperationsWriteOnlyTheirRegisters :
    (∃ t, exec .clsVolup State.reset = .next t) ∧ (∃ t, exec .encMark State.reset = .next t) ∧
    (∃ t, exec .dbMatch State.reset = .next t) ∧ (∃ t, exec .outCont State.reset = .next t) ∧
    (∃ t, exec .schEval State.reset = .next t) ∧ (∃ t, exec .dspVolup State.reset = .next t) ∧
    (∃ t, exec .opReset State.reset = .next t) :=
  ⟨⟨_, rfl⟩, ⟨_, rfl⟩, ⟨_, rfl⟩, ⟨_, rfl⟩, ⟨_, rfl⟩, ⟨_, rfl⟩, ⟨_, rfl⟩⟩

theorem witness_InvariantKeptByStep :
    (readyFor .ex1 [1000]).Inv ∧ ∃ t, step (readyFor .ex1 [1000]) = .next t :=
  ⟨inv_readyFor_ex1 _, next_of_isSome (by decide +kernel)⟩

theorem witness_InvariantHoldsAfterReset :
    { inTx 1 10 true false with hasReset := false }.cfg.legal = true ∧ (inTx 1 10 true false).slot = none := by decide

theorem witness_RegisterRangesAfterReset :
    { ready 0x8000 with hasReset := false }.cfg.legal = true ∧ { ready 0x8000 with hasReset := false }.slot = none ∧
    { ready 0x8000 with hasReset := false }.input = 0x8000 :: [] ∧ (0x8000#16).getLsbD 15 = true ∧
    ∃ t, runSteps 1 { ready 0x8000 with hasReset := false } = .next t :=
  ⟨by decide, rfl, rfl, by decide, next_of_isSome (by decide +kernel)⟩

theorem witness_NoFaultOnLegalInput :
    { ready 0x8000 with input := [0x8000, 0x03E8, 0xFFFF] }.cfg.legal = true ∧
    (0x8000#16).getLsbD 15 = true ∧
    ∀ v ∈ ([0x03E8, 0xFFFF] : List StimWord), v.getLsbD 15 = true ∨ v.extractLsb' 10 5 = 0 := by
  refine ⟨by decide, by decide, fun v hv => ?_⟩
  rcases List.mem_pair.mp hv with rfl | rfl
  · exact .inr (by decide)
  · exact .inl (by decide)

end Sys2Proof.Tests
end

section
/-! SUPPORT. The frame every operation has: the configuration (R7), the pending stimulus and the probe slot are unchanged, and
`has_reset` is never cleared (R40). It is proved once per register write, lifted through the stages to `exec`, and carried to
`step` by the one lemma that says what a step that goes on has done. -/

namespace Sys2Proof.Machine

/-! ### The frame relation -/

/-- `t` has the configuration, pending stimulus and probe slot of `s`, and no reset that `s` has seen is forgotten (R7, R20, R40). -/
structure State.KeepsSetting (s t : State) : Prop where
  cfg : t.cfg = s.cfg
  input : t.input = s.input
  slot : t.slot = s.slot
  hasReset : s.hasReset = true → t.hasReset = true

namespace State.KeepsSetting

theorem refl (s : State) : s.KeepsSetting s := ⟨rfl, rfl, rfl, id⟩

theorem trans {s t u : State} (hst : s.KeepsSetting t) (htu : t.KeepsSetting u) : s.KeepsSetting u :=
  ⟨htu.cfg.trans hst.cfg, htu.input.trans hst.input, htu.slot.trans hst.slot, htu.hasReset ∘ hst.hasReset⟩

/-- A guarded write, as the pseudocode of the operations has it: the write or nothing. -/
theorem guarded {p : Prop} [Decidable p] {s t : State} (h : s.KeepsSetting t) : s.KeepsSetting (if p then t else s) := by
  split
  · exact h
  · exact refl s

end State.KeepsSetting

/-! ### Each register write keeps the setting -/

theorem State.latch_keepsSetting (s : State) (raw : RawSample) : s.KeepsSetting (s.latch raw) := ⟨rfl, rfl, rfl, id⟩
theorem State.clearLoc_keepsSetting (s : State) : s.KeepsSetting s.clearLoc := ⟨rfl, rfl, rfl, id⟩
theorem State.setSym_keepsSetting (s : State) (c : SymCode) : s.KeepsSetting (s.setSym c) := ⟨rfl, rfl, rfl, id⟩
theorem State.setEval_keepsSetting (s : State) (b : Bool) : s.KeepsSetting (s.setEval b) := ⟨rfl, rfl, rfl, id⟩
theorem State.setEncBit_keepsSetting (s : State) (b : Bool) : s.KeepsSetting (s.setEncBit b) := ⟨rfl, rfl, rfl, id⟩
theorem State.appendSeg_keepsSetting (s : State) (b : Bool) (n : Nat) : s.KeepsSetting (s.appendSeg b n) := ⟨rfl, rfl, rfl, id⟩
theorem State.setDcount_keepsSetting (s : State) (n : Nat) : s.KeepsSetting (s.setDcount n) := ⟨rfl, rfl, rfl, id⟩
theorem State.commit_keepsSetting (s : State) (c : SymCode) : s.KeepsSetting (s.commit c) := ⟨rfl, rfl, rfl, id⟩
theorem State.setFout_keepsSetting (s : State) (c : SymCode) : s.KeepsSetting (s.setFout c) := ⟨rfl, rfl, rfl, id⟩
theorem State.setArmed_keepsSetting (s : State) (b : Bool) : s.KeepsSetting (s.setArmed b) := ⟨rfl, rfl, rfl, id⟩
theorem State.setMode_keepsSetting (s : State) (m : ModeCode) : s.KeepsSetting (s.setMode m) := ⟨rfl, rfl, rfl, id⟩
theorem State.setTxPos_keepsSetting (s : State) (n : Nat) : s.KeepsSetting (s.setTxPos n) := ⟨rfl, rfl, rfl, id⟩
theorem State.setWaitLeft_keepsSetting (s : State) (n : Nat) : s.KeepsSetting (s.setWaitLeft n) := ⟨rfl, rfl, rfl, id⟩
theorem State.setPrev_keepsSetting (s : State) (c : SymCode) : s.KeepsSetting (s.setPrev c) := ⟨rfl, rfl, rfl, id⟩
theorem State.clearStrobe_keepsSetting (s : State) : s.KeepsSetting s.clearStrobe := ⟨rfl, rfl, rfl, id⟩
theorem State.emit_keepsSetting (s : State) (c : CmdCode) (v : Bool) : s.KeepsSetting (s.emit c v) := ⟨rfl, rfl, rfl, id⟩
theorem State.setPin_keepsSetting (s : State) (b : Bool) : s.KeepsSetting (s.setPin b) := ⟨rfl, rfl, rfl, id⟩

/-- OP_RESET writes `has_reset` too, but only to 1 (R40, R250, R251). -/
theorem State.resetRegs_keepsSetting (s : State) : s.KeepsSetting s.resetRegs := ⟨rfl, rfl, rfl, fun _ => rfl⟩

/-! ### Outcomes -/

/-- The outcome `o` of an operation or a stage on `s` keeps the setting, where it goes on at all. -/
def OutcomeKeepsSetting (s : State) (o : Result) : Prop := ∀ t, o = .next t → s.KeepsSetting t

namespace OutcomeKeepsSetting

theorem next {s t : State} (h : s.KeepsSetting t) : OutcomeKeepsSetting s (.next t) := by
  rintro _ ⟨⟩
  exact h

theorem fault (s : State) (r : Fault) : OutcomeKeepsSetting s (.fault r) := by
  rintro _ ⟨⟩

theorem refused (s : State) (r : Refusal) : OutcomeKeepsSetting s (.refused r) := by
  rintro _ ⟨⟩

/-- An operation run on `u`, where the writes from `s` to `u` keep the setting themselves. -/
theorem after {s u : State} {o : Result} (hsu : s.KeepsSetting u) (ho : OutcomeKeepsSetting u o) : OutcomeKeepsSetting s o :=
  fun t ht => hsu.trans (ho t ht)

theorem andThen {s : State} {o : Result} {f : State → Result} (ho : OutcomeKeepsSetting s o)
    (hf : ∀ u, OutcomeKeepsSetting u (f u)) : OutcomeKeepsSetting s (andThen o f) := by
  intro t ht
  obtain ⟨u, hu, hut⟩ := andThen_eq_next.mp ht
  exact (ho u hu).trans (hf u t hut)

end OutcomeKeepsSetting

/-! ### Stages -/

/-- Every stage operation keeps the setting: its effect is a write of the register it is named for, guarded or not. -/
theorem stageOp_keepsSetting (i : Instr) (s : State) : OutcomeKeepsSetting s (stageOp i s) := by
  cases i with
  | opReset | opTick => exact .refused s _
  | clsVolup | clsVoldn | clsSource | clsSeekf | clsSeekb | clsExtra | clsIdle => exact .next (s.setSym_keepsSetting _)
  | dbMatch | dbCount => exact .next (.guarded (s.setDcount_keepsSetting _))
  | dbCommit => exact .next (.guarded (s.commit_keepsSetting _))
  | outCont | outSupp => exact .next (.guarded (s.setFout_keepsSetting _))
  | outRearm | outShot => exact .next (.guarded ((s.setFout_keepsSetting _).trans (State.setArmed_keepsSetting _ _)))
  | schEval => exact .next (.guarded (s.setEval_keepsSetting _))
  | schTxAdv => exact .next (.guarded ((s.setTxPos_keepsSetting _).trans (State.setEval_keepsSetting _ _)))
  | schTxDoneEval | schWaitDone =>
    exact .next (.guarded ((s.setMode_keepsSetting _).trans (State.setEval_keepsSetting _ _)))
  | schTxDoneWait =>
    exact .next (.guarded (((s.setMode_keepsSetting _).trans (State.setWaitLeft_keepsSetting _ _)).trans
      (State.setEval_keepsSetting _ _)))
  | schWaitDec => exact .next (.guarded ((s.setWaitLeft_keepsSetting _).trans (State.setEval_keepsSetting _ _)))
  | dspIdle | dspSourceHold | dspExtraHold => exact .next (.refl s)
  | dspVolup | dspVoldn | dspSourceEdge | dspSeekfFirst | dspSeekfHeld | dspSeekfHeldSame | dspSeekbFirst | dspSeekbHeld
  | dspSeekbHeldSame | dspExtraEdge => exact .next (s.emit_keepsSetting _ _)
  | encBusrst | encAgcLow | encAgcHigh | encMark | encSpace => exact .next (s.appendSeg_keepsSetting _ _)
  | encExt => exact .next (.guarded (s.appendSeg_keepsSetting _ _))

theorem guardStage_keepsSetting (s : State) : OutcomeKeepsSetting s (guardStage s) := by
  intro t ht
  obtain ⟨-, rfl⟩ := guardStage_eq_next.mp ht
  exact .refl t

theorem schedStage_keepsSetting (s : State) : OutcomeKeepsSetting s (schedStage s) := by
  unfold schedStage
  split
  · exact .fault s _
  · exact stageOp_keepsSetting _ s

theorem evaluate_keepsSetting (s : State) : OutcomeKeepsSetting s (evaluate s) := by
  unfold evaluate
  split
  · exact .fault s _
  · exact (stageOp_keepsSetting _ s).andThen fun u => .next (u.setPrev_keepsSetting _)

theorem dispatchStage_keepsSetting (s : State) : OutcomeKeepsSetting s (dispatchStage s) := by
  rw [dispatchStage_eq]
  split
  · exact .after s.clearStrobe_keepsSetting (evaluate_keepsSetting _)
  · exact .next s.clearStrobe_keepsSetting

theorem playSeg_keepsSetting (g : Seg) (s : State) : OutcomeKeepsSetting s (playSeg g s) := by
  unfold playSeg
  split
  · exact .fault s _
  · exact .after (s.setEncBit_keepsSetting _) (stageOp_keepsSetting _ _)

theorem playSegs_keepsSetting (gs : List Seg) (s : State) : OutcomeKeepsSetting s (playSegs gs s) := by
  induction gs generalizing s with
  | nil => exact .next (.refl s)
  | cons g gs ih => exact (playSeg_keepsSetting g s).andThen ih

theorem pinStage_keepsSetting (s : State) : OutcomeKeepsSetting s (pinStage s) := by
  unfold pinStage
  split
  · exact (playSegs_keepsSetting _ s).andThen fun u => .next (u.setPin_keepsSetting _)
  · exact .next (s.setPin_keepsSetting _)

/-! ### Whole operations and the step -/

/-- OP_TICK keeps the setting, stage after stage (R150). -/
theorem execOpTick_keepsSetting (raw : RawSample) (s : State) : OutcomeKeepsSetting s (execOpTick raw s) :=
  .after (s.latch_keepsSetting raw) <|
    (guardStage_keepsSetting _).andThen fun s0 =>
    (schedStage_keepsSetting s0).andThen fun s1 =>
    OutcomeKeepsSetting.andThen (stageOp_keepsSetting _ s1) fun s2 =>
    OutcomeKeepsSetting.andThen (stageOp_keepsSetting _ s2) fun s3 =>
    OutcomeKeepsSetting.andThen (stageOp_keepsSetting _ s3) fun s4 =>
    (dispatchStage_keepsSetting s4).andThen fun s5 =>
    (pinStage_keepsSetting s5).andThen fun s6 => .next s6.clearLoc_keepsSetting

/-- An operation is OP_RESET, OP_TICK, or one that a stage selects (R74, R76 to R81). -/
theorem opReset_or_opTick_or_stage (i : Instr) : i = .opReset ∨ (∃ raw, i = .opTick raw) ∨ i.row.fmt ≠ .stim := by
  cases i with
  | opReset => exact .inl rfl
  | opTick raw => exact .inr (.inl ⟨raw, rfl⟩)
  | _ => exact .inr (.inr nofun)

/-- No operation of the map changes the configuration, the pending stimulus or the probe slot, or clears `has_reset`. -/
theorem exec_keepsSetting (i : Instr) (s : State) : OutcomeKeepsSetting s (exec i s) := by
  obtain rfl | ⟨raw, rfl⟩ | hi := opReset_or_opTick_or_stage i
  · exact .next s.resetRegs_keepsSetting
  · exact execOpTick_keepsSetting raw s
  · rw [← stageOp_eq_exec i s hi]
    exact stageOp_keepsSetting i s

/-- A step that goes on has a legal configuration, and it ran the probe, held the state with no word pending, or ran the operation
of the next stimulus word (R8, R21, R227). -/
theorem step_next_cases {s t : State} (h : step s = .next t) :
    s.cfg.legal = true ∧
      ((∃ i, s.slot = some i ∧ exec i s.dropSlot = .next t) ∨
       (s.slot = none ∧ s.input = [] ∧ t = s) ∨
       (∃ w ws i, s.slot = none ∧ s.input = w :: ws ∧ decodeStim w = some i ∧ exec i (s.withInput ws) = .next t)) := by
  rw [step_eq] at h
  split at h
  case isTrue => cases h
  case isFalse hl =>
    refine ⟨by simpa using hl, ?_⟩
    split at h
    next i hslot => exact .inl ⟨i, hslot, h⟩
    next hslot hin => exact .inr (.inl ⟨hslot, hin, by cases h; rfl⟩)
    next w ws hslot hin =>
      split at h
      next => cases h
      next i hi => exact .inr (.inr ⟨w, ws, i, hslot, hin, hi, h⟩)

/-- One step keeps the configuration and a `has_reset` of 1; it may take a stimulus word or the probe. -/
theorem step_keeps_cfg_hasReset {s t : State} (h : step s = .next t) :
    t.cfg = s.cfg ∧ (s.hasReset = true → t.hasReset = true) := by
  obtain ⟨-, ⟨i, -, hi⟩ | ⟨-, -, rfl⟩ | ⟨w, ws, i, -, -, -, hi⟩⟩ := step_next_cases h
  · have hk := exec_keepsSetting i s.dropSlot t hi
    exact ⟨hk.cfg, hk.hasReset⟩
  · exact ⟨rfl, id⟩
  · have hk := exec_keepsSetting i (s.withInput ws) t hi
    exact ⟨hk.cfg, hk.hasReset⟩

end Sys2Proof.Machine
end

section
/-! SUPPORT. Each part of configuration legality as the clause of R8 it checks. -/

namespace Sys2Proof

theorem CalRow.legal_iff (r : CalRow) : r.legal = true ↔ r.center ≤ 1023 ∧ r.tol ≤ 1023 := by
  simp [CalRow.legal]

theorem Config.windowLegal_iff (c : Config) : c.windowLegal = true ↔ 1 ≤ c.n ∧ c.n ≤ 65535 := by
  simp [Config.windowLegal]

theorem Config.waitLegal_iff (c : Config) :
    c.waitLegal = true ↔ c.repeatWait.toNat + c.resumeGap.toNat ≤ 65535 := by
  simp [Config.waitLegal]

theorem Config.resetSymLegal_iff (c : Config) : c.resetSymLegal = true ↔ c.resetSym.toNat ≤ 6 := by
  simp [Config.resetSymLegal]

/-- The rows of the calibration table are those of the six buttons (R42). -/
theorem Config.forall_cal_iff (c : Config) (p : CalRow → Prop) :
    (∀ (y : Symbol) (r : CalRow), c.cal y = some r → p r) ↔
      p c.volUp ∧ p c.volDown ∧ p c.source ∧ p c.seekFwd ∧ p c.seekBack ∧ p c.extra := by
  constructor
  · intro h
    exact ⟨h .volUp _ rfl, h .volDown _ rfl, h .source _ rfl, h .seekFwd _ rfl, h .seekBack _ rfl, h .extra _ rfl⟩
  · rintro ⟨hvu, hvd, hso, hsf, hsb, hex⟩ y r hr
    cases y <;> cases hr <;> assumption

/-- The commands and the address are in range by their type (R8). -/
theorem CmdCode.toNat_le (v : CmdCode) : v.toNat ≤ 127 := Nat.le_of_lt_succ v.isLt

theorem Config.legal_iff (c : Config) :
    c.legal = true ↔
      (∀ (y : Symbol) (r : CalRow), c.cal y = some r → r.center ≤ 1023 ∧ r.tol ≤ 1023) ∧
      (1 ≤ c.n ∧ c.n ≤ 65535) ∧ c.repeatWait.toNat + c.resumeGap.toNat ≤ 65535 ∧ c.resetSym.toNat ≤ 6 := by
  simp only [Config.legal, Bool.and_eq_true, Config.forall_cal_iff, CalRow.legal_iff, Config.windowLegal_iff,
    Config.waitLegal_iff, Config.resetSymLegal_iff, and_assoc]

namespace Machine

theorem step_of_illegal {s : State} (h : s.cfg.legal = false) : step s = .refused .illegalConfig := by
  rw [step_eq, if_pos h]

end Machine

end Sys2Proof
end

section
/-! The statements of spec 00_scope.md. -/

namespace Sys2Proof.Machine

/-- Settles O9: R8's list is the model's check, the codes' ranges by type, and the step asks for legality before all else. -/
theorem illegalConfigurationRunsNothing : Obligations.IllegalConfigurationRunsNothing := by
  refine ⟨fun c => ?_, fun s => step_of_illegal⟩
  rw [Config.legal_iff]
  constructor
  · rintro ⟨hcal, hn, hwait, hsym⟩
    exact ⟨hcal, hn, hwait, hsym, fun v _ => v.toNat_le⟩
  · rintro ⟨hcal, hn, hwait, hsym, -⟩
    exact ⟨hcal, hn, hwait, hsym⟩

/-- Settles O10, by induction on the number of steps. -/
theorem runsKeepConfiguration : Obligations.RunsKeepConfiguration := by
  intro k
  induction k with
  | zero =>
    rintro s _ ⟨⟩
    exact ⟨rfl, id⟩
  | succ k ih =>
    intro s t h
    obtain ⟨u, hu, ht⟩ := andThen_eq_next.mp h
    obtain ⟨hcfg, hreset⟩ := step_keeps_cfg_hasReset hu
    obtain ⟨hcfg', hreset'⟩ := ih u t ht
    exact ⟨hcfg'.trans hcfg, hreset' ∘ hreset⟩

end Sys2Proof.Machine
end

section
/-! SUPPORT. The waveform a transmission's segments play (R190 to R197) and its length (R198). -/

namespace Sys2Proof.Machine

/-! ### The levels of the segments -/

theorem flatMap_segWave_bitSegs (b : Bool) : (bitSegs b).flatMap segWave = bitWave b := by
  cases b <;> rfl

theorem flatMap_segWave_field7Segs (v : CmdCode) : (field7Segs v).flatMap segWave = fieldWave v := by
  simp [field7Segs, fieldWave, flatMap_segWave_bitSegs, List.range_succ]

theorem flatMap_segWave_frameSegs (addr c : CmdCode) : (frameSegs addr c).flatMap segWave = frameWave addr c := by
  have hheader : headerSegs.flatMap segWave = [true] ++ List.replicate 16 false ++ List.replicate 8 true := rfl
  simp only [frameSegs, frameWave, List.flatMap_append, hheader, flatMap_segWave_bitSegs, flatMap_segWave_field7Segs]

/-- The segments of a transmission play `TXWAVE` (R197). -/
theorem flatMap_segWave_txSegs (addr c : CmdCode) : (txSegs addr c).flatMap segWave = txWave addr c := by
  simp [txSegs, frameRepeats, List.replicate, txWave, flatMap_segWave_frameSegs]

/-! ### Lengths -/

theorem length_bitWave (b : Bool) : (bitWave b).length = 2 + 2 * b.toNat := by
  cases b <;> rfl

theorem length_fieldWave (v : CmdCode) : (fieldWave v).length = 14 + 2 * popcount7 v := by
  have hcount : popcount7 v = (v.getLsbD 0).toNat + (v.getLsbD 1).toNat + (v.getLsbD 2).toNat + (v.getLsbD 3).toNat +
      (v.getLsbD 4).toNat + (v.getLsbD 5).toNat + (v.getLsbD 6).toNat := by
    simp [popcount7, List.range_succ, add_assoc]
  simp only [fieldWave, List.length_append, length_bitWave, hcount]
  omega

theorem length_frameWave (addr c : CmdCode) : (frameWave addr c).length = frameLen addr c := by
  simp only [frameWave, frameLen, List.length_append, List.length_replicate, List.length_singleton, length_bitWave,
    length_fieldWave, Bool.toNat_true]
  omega

theorem length_txWave (addr c : CmdCode) : (txWave addr c).length = txLen addr c := by
  simp only [txWave, txLen, frameRepeats, List.length_append, length_frameWave]
  omega

theorem popcount7_le (v : CmdCode) : popcount7 v ≤ 7 := by
  have h := List.sum_le_card_nsmul ((List.range 7).map fun i => (v.getLsbD i).toNat) 1 (by
    simp only [List.mem_map]
    rintro _ ⟨i, -, rfl⟩
    exact Bool.toNat_le _)
  simpa [popcount7] using h

theorem txLen_pos (addr c : CmdCode) : 0 < txLen addr c := by
  unfold txLen frameLen frameRepeats
  omega

/-- The longest transmission has 279 ticks (R198), so every position of one fits the nine bits of `tx_pos` (R35). -/
theorem txLen_le (addr c : CmdCode) : txLen addr c ≤ 279 := by
  have haddr := popcount7_le addr
  have hc := popcount7_le c
  unfold txLen frameLen frameRepeats
  omega

end Sys2Proof.Machine
end

section
/-! SUPPORT. The stages of a tick that goes on, each as a function of the state, and the whole tick as their composition (R150). -/

namespace Sys2Proof.Machine

/-! ### Classifier and filter -/

/-- The state with the filter registers `f`. -/
def State.setFilter (s : State) (f : FilterRegs) : State :=
  { s with stable := f.stable, dcount := f.dcount, armed := f.armed, fout := f.fout }

/-- The classifier stage writes the symbol that R101 gives the sample. -/
theorem classStage_eq (s : State) : classStage s = .next (s.setSym (classify s.cfg s.loc.raw).code) := by
  unfold classStage cselWord classify
  rw [decodeCsel_bits]
  split_ifs <;> simp_all only [List.find?_cons] <;> rfl

/-- The filter step on the machine's registers is the filter step on the filter's own (R120 to R122). -/
theorem filterStage_eq_setFilter (s : State) :
    filterStage s = .next (s.setFilter (filterStep s.cfg s.filter s.loc.sym)) := by
  rw [filterStage_eq]
  have hsucc : BitVec.ofNat 16 (s.dcount.toNat + 1) = s.dcount + 1 := by
    apply BitVec.eq_of_toNat_eq
    simp
  unfold filterStep State.filter State.setDcount
  split_ifs
  · rfl
  · simp only [hsucc]; rfl
  · rfl

/-- The output stage on the machine's registers is the output stage on the filter's own (R140 to R143). -/
theorem outputStage_eq_setFilter (s : State) : outputStage s = .next (s.setFilter (filterOutput s.cfg s.filter)) := by
  rw [outputStage_eq]
  unfold filterOutput State.filter
  split_ifs <;> rfl

/-- The state after the classifier, the filter step and the output stage: this tick's symbol, and the filter one tick on. -/
def State.filtered (s : State) : State :=
  (s.setSym (classify s.cfg s.loc.raw).code).setFilter (filterTick s.cfg s.filter s.loc.raw)

theorem classFilterOutput_eq (s : State) :
    (andThen (classStage s) fun t => andThen (filterStage t) outputStage) = .next s.filtered := by
  rw [classStage_eq, andThen_next, filterStage_eq_setFilter, andThen_next, outputStage_eq_setFilter]
  rfl

@[simp] theorem State.filtered_filter (s : State) : s.filtered.filter = filterTick s.cfg s.filter s.loc.raw := rfl
@[simp] theorem State.filtered_fout (s : State) : s.filtered.fout = (filterTick s.cfg s.filter s.loc.raw).fout := rfl
@[simp] theorem State.filtered_prev (s : State) : s.filtered.prev = s.prev := rfl
@[simp] theorem State.filtered_eval (s : State) : s.filtered.loc.eval = s.loc.eval := rfl
@[simp] theorem State.filtered_wave (s : State) : s.filtered.loc.wave = s.loc.wave := rfl

/-! ### Scheduler -/

/-- The state after the scheduler stage in the modes READY, TX and WAIT (R152 to R157). -/
def State.scheduled (s : State) : State :=
  if s.mode = modeReady then s.setEval true
  else if s.mode = modeTx then
    if s.txPos.toNat + 1 < txLen s.cfg.addr s.txCmd then (s.setTxPos (s.txPos.toNat + 1)).setEval false
    else if s.txPos.toNat + 1 = txLen s.cfg.addr s.txCmd then
      if post s.cfg s.txVol = 0 then (s.setMode modeReady).setEval true
      else ((s.setMode modeWait).setWaitLeft (post s.cfg s.txVol - 1)).setEval false
    else s
  else if s.waitLeft = 0 then (s.setMode modeReady).setEval true
  else (s.setWaitLeft (s.waitLeft.toNat - 1)).setEval false

theorem mode_cases (m : ModeCode) : m = modeReady ∨ m = modeTx ∨ m = modeWait ∨ m = 3 := by
  revert m; decide

theorem schedStage_eq_scheduled {s : State} (h : s.mode ≠ 3) : schedStage s = .next s.scheduled := by
  rw [schedStage_eq]
  unfold State.scheduled
  obtain hm | hm | hm | hm := mode_cases s.mode
  · simp [hm]
  · simp only [hm, modeTx_ne_ready, if_true, if_false]
    split_ifs <;> rfl
  · simp only [hm, modeWait_ne_ready, modeWait_ne_tx, if_false]
    split_ifs <;> rfl
  · exact absurd hm h

/-- The scheduler writes its own registers and `eval` alone (R53). -/
theorem State.scheduled_frame (s : State) :
    s.scheduled = { s with
      mode := s.scheduled.mode, txPos := s.scheduled.txPos, waitLeft := s.scheduled.waitLeft,
      loc := { s.loc with eval := s.scheduled.loc.eval } } := by
  unfold State.scheduled
  split_ifs <;> rfl

@[simp] theorem State.scheduled_filter (s : State) : s.scheduled.filter = s.filter := by rw [s.scheduled_frame]; rfl
@[simp] theorem State.scheduled_prev (s : State) : s.scheduled.prev = s.prev := by rw [s.scheduled_frame]
@[simp] theorem State.scheduled_cfg (s : State) : s.scheduled.cfg = s.cfg := by rw [s.scheduled_frame]
@[simp] theorem State.scheduled_raw (s : State) : s.scheduled.loc.raw = s.loc.raw := by rw [s.scheduled_frame]
@[simp] theorem State.scheduled_wave (s : State) : s.scheduled.loc.wave = s.loc.wave := by rw [s.scheduled_frame]

/-- The scheduler sets `eval` at the evaluation ticks, and only there (R151). -/
theorem State.scheduled_eval {s : State} (hmode : s.mode ≠ 3) (heval : s.loc.eval = false) :
    s.scheduled.loc.eval = s.evaluates := by
  unfold State.scheduled State.evaluates
  obtain hm | hm | hm | hm := mode_cases s.mode
  · simp [hm]
  · simp only [hm, modeTx_ne_ready, modeTx_ne_wait, if_true, if_false]
    split_ifs with hadv hlast hpost
    · simp [hadv.ne]
    · simp [hlast, hpost]
    · simp [hlast, hpost]
    · simp [hlast, heval]
  · simp only [hm, modeWait_ne_ready, modeWait_ne_tx, if_false]
    split_ifs with hzero
    · simp [hzero]
    · simpa using hzero
  · exact absurd hm hmode

/-! ### Dispatcher -/

/-- The state after an evaluation of a defined symbol (R73, R161, R170). -/
def State.evaluated (s : State) : State :=
  match commandFor s.cfg s.prev s.fout with
  | some (c, v) => (s.emit c v).setPrev s.fout
  | none => s.setPrev s.fout

theorem evaluate_eq_evaluated {s : State} (h : s.fout ≠ 7) : evaluate s = .next s.evaluated := by
  rw [evaluate_eq, if_neg h]
  unfold State.evaluated
  cases commandFor s.cfg s.prev s.fout <;> rfl

/-- An evaluation emits a command or not, and records `prev` either way. -/
theorem State.evaluated_cases (s : State) :
    (∃ c v, s.evaluated = (s.emit c v).setPrev s.fout) ∨ s.evaluated = s.setPrev s.fout := by
  unfold State.evaluated
  cases commandFor s.cfg s.prev s.fout with
  | none => exact .inr rfl
  | some cv => exact .inl ⟨cv.1, cv.2, rfl⟩

/-- The state after the dispatcher stage, where an evaluation reads a defined symbol. -/
def State.dispatched (s : State) : State :=
  if s.loc.eval = true then s.clearStrobe.evaluated else s.clearStrobe

theorem dispatchStage_eq_dispatched {s : State} (h : s.loc.eval = true → s.fout ≠ 7) :
    dispatchStage s = .next s.dispatched := by
  rw [dispatchStage_eq]
  unfold State.dispatched
  split
  next heval => exact evaluate_eq_evaluated (h heval)
  next => rfl

/-- The three things a dispatcher stage can do: nothing outside an evaluation tick, and at one record `prev`, with or without
an emission. -/
theorem State.dispatched_cases (s : State) :
    (s.loc.eval = false ∧ s.dispatched = s.clearStrobe) ∨
    (s.loc.eval = true ∧ s.dispatched = s.clearStrobe.setPrev s.fout) ∨
    (s.loc.eval = true ∧ ∃ c v, s.dispatched = (s.clearStrobe.emit c v).setPrev s.fout) := by
  unfold State.dispatched
  split
  next heval =>
    obtain ⟨c, v, h⟩ | h := s.clearStrobe.evaluated_cases
    · exact .inr (.inr ⟨heval, c, v, h⟩)
    · exact .inr (.inl ⟨heval, h⟩)
  next heval => exact .inl ⟨by simpa using heval, rfl⟩

theorem State.dispatched_filter (s : State) : s.dispatched.filter = s.filter := by
  obtain ⟨-, h⟩ | ⟨-, h⟩ | ⟨-, c, v, h⟩ := s.dispatched_cases <;> rw [h] <;> rfl

theorem State.dispatched_loc (s : State) : s.dispatched.loc = s.loc := by
  obtain ⟨-, h⟩ | ⟨-, h⟩ | ⟨-, c, v, h⟩ := s.dispatched_cases <;> rw [h] <;> rfl

/-- `prev` is the filter output an evaluation read, and is untouched by any other tick (R161). -/
theorem State.dispatched_prev (s : State) : s.dispatched.prev = if s.loc.eval = true then s.fout else s.prev := by
  obtain ⟨he, h⟩ | ⟨he, h⟩ | ⟨he, c, v, h⟩ := s.dispatched_cases <;> rw [h] <;> simp [he]

/-! ### Pin, and the whole tick -/

/-- The pin stage and the end of the tick: the level of R199 is driven and the waveform under construction is dropped. -/
theorem pinStage_clearLoc {s : State} (hwave : s.loc.wave = []) :
    (andThen (pinStage s) fun t => .next t.clearLoc) = .next (drive s).clearLoc := by
  obtain ⟨b, hb⟩ := pinStage_eq s hwave
  rw [hb, flatMap_segWave_txSegs]
  unfold drive
  split_ifs <;> rfl

/-- The state after an OP_TICK on the sample `raw` that goes on: the stages of R150, each a function of the state before it. -/
def State.ticked (s : State) (raw : RawSample) : State :=
  (drive (s.latch raw).scheduled.filtered.dispatched).clearLoc

theorem State.latch_evaluates (s : State) (raw : RawSample) : (s.latch raw).evaluates = s.evaluates := rfl

theorem State.latch_filter (s : State) (raw : RawSample) : (s.latch raw).filter = s.filter := rfl

/-- The filter registers and `eval` as the dispatcher stage of a tick finds them. -/
theorem State.filtered_filter_of_latch (s : State) (raw : RawSample) :
    (s.latch raw).scheduled.filtered.filter = filterTick s.cfg s.filter raw := by
  simp [State.latch_filter]

theorem State.filtered_eval_of_latch {s : State} (hmode : s.mode ≠ 3) (raw : RawSample) :
    (s.latch raw).scheduled.filtered.loc.eval = s.evaluates := by
  rw [State.filtered_eval, State.scheduled_eval (s := s.latch raw) hmode rfl, State.latch_evaluates]

/-- OP_TICK goes on after a reset, in a defined mode, where an evaluation reads a defined symbol (R221, R222, R184). -/
theorem execOpTick_eq_ticked {s : State} (raw : RawSample) (hreset : s.hasReset = true) (hmode : s.mode ≠ 3)
    (hsym : s.evaluates = true → (filterTick s.cfg s.filter raw).fout ≠ 7) :
    execOpTick raw s = .next (s.ticked raw) := by
  have hguard : guardStage (s.latch raw) = .next (s.latch raw) := guardStage_eq_next.mpr ⟨hreset, rfl⟩
  have hsched : schedStage (s.latch raw) = .next (s.latch raw).scheduled := schedStage_eq_scheduled hmode
  have hdispatch := dispatchStage_eq_dispatched (s := (s.latch raw).scheduled.filtered) (by
    rw [State.filtered_eval_of_latch hmode]
    simpa [State.latch_filter] using hsym)
  have hpin := pinStage_clearLoc (s := (s.latch raw).scheduled.filtered.dispatched) (by
    simp [State.dispatched_loc, TickLocal.idle])
  unfold execOpTick
  rw [hguard, andThen_next, hsched, andThen_next]
  calc _ = andThen (andThen (classStage (s.latch raw).scheduled) fun t => andThen (filterStage t) outputStage)
        fun s4 => andThen (dispatchStage s4) fun s5 => andThen (pinStage s5) fun s6 => .next s6.clearLoc := by
        simp only [andThen_assoc]
    _ = .next (s.ticked raw) := by
        rw [classFilterOutput_eq, andThen_next, hdispatch, andThen_next, hpin, State.ticked]

theorem State.ticked_filter (s : State) (raw : RawSample) : (s.ticked raw).filter = filterTick s.cfg s.filter raw :=
  (State.dispatched_filter _).trans (s.filtered_filter_of_latch raw)

theorem State.ticked_fout (s : State) (raw : RawSample) : (s.ticked raw).fout = (filterTick s.cfg s.filter raw).fout :=
  congrArg FilterRegs.fout (s.ticked_filter raw)

theorem State.ticked_prev {s : State} (hmode : s.mode ≠ 3) (raw : RawSample) :
    (s.ticked raw).prev = if s.evaluates = true then (s.ticked raw).fout else s.prev := by
  rw [s.ticked_fout]
  have h : (s.ticked raw).prev = _ := State.dispatched_prev (s.latch raw).scheduled.filtered
  rw [State.filtered_eval_of_latch hmode] at h
  simpa [State.latch_filter] using h

end Sys2Proof.Machine
end

section
/-! SUPPORT. The invariant of R44, in the parts that one stage of a tick each has to keep: the filter's registers, the scheduler's
registers, and the level on the pin. -/

namespace Sys2Proof.Machine

/-! ### The filter registers -/

/-- R44 for the filter's own registers. -/
structure FilterRegs.Inv (c : Config) (f : FilterRegs) : Prop where
  stable_le : f.stable.toNat ≤ 6
  fout_le : f.fout.toNat ≤ 6
  dcount_le : f.dcount.toNat ≤ c.n - 1
  continuous : c.oneshot = false → f.fout = f.stable ∧ f.armed = true

theorem symbolCode_toNat_le (y : Symbol) : y.code.toNat ≤ 6 := by
  cases y <;> decide

@[simp] theorem filterStep_armed (c : Config) (f : FilterRegs) (y : SymCode) : (filterStep c f y).armed = f.armed := by
  unfold filterStep
  split_ifs <;> rfl

theorem filterStep_stable_le {c : Config} {f : FilterRegs} {y : SymCode} (hf : f.stable.toNat ≤ 6) (hy : y.toNat ≤ 6) :
    (filterStep c f y).stable.toNat ≤ 6 := by
  unfold filterStep
  split_ifs <;> assumption

/-- The run counter stays below the stability window: it counts on only where one more tick does not fill it (R121). -/
theorem filterStep_dcount_le {c : Config} (f : FilterRegs) (y : SymCode) (hn : c.n ≤ 65535) :
    (filterStep c f y).dcount.toNat ≤ c.n - 1 := by
  unfold filterStep
  split_ifs with heq hlt
  · simp
  · have hsucc : (f.dcount + 1).toNat = f.dcount.toNat + 1 := by
      rw [BitVec.toNat_add]
      exact Nat.mod_eq_of_lt (show f.dcount.toNat + 1 < 65536 by omega)
    rw [hsucc]
    omega
  · simp

@[simp] theorem filterOutput_stable (c : Config) (f : FilterRegs) : (filterOutput c f).stable = f.stable := by
  unfold filterOutput
  split_ifs <;> rfl

@[simp] theorem filterOutput_dcount (c : Config) (f : FilterRegs) : (filterOutput c f).dcount = f.dcount := by
  unfold filterOutput
  split_ifs <;> rfl

/-- The output is the stable symbol or the reset symbol (R140 to R143). -/
theorem filterOutput_fout (c : Config) (f : FilterRegs) :
    (filterOutput c f).fout = f.stable ∨ (filterOutput c f).fout = c.resetSym := by
  unfold filterOutput
  split_ifs
  exacts [.inl rfl, .inl rfl, .inl rfl, .inr rfl]

theorem filterOutput_of_continuous {c : Config} (f : FilterRegs) (h : c.oneshot = false) :
    filterOutput c f = { f with fout := f.stable } := if_pos h

/-- A tick keeps R44's ranges of the filter registers, whatever the sample. -/
theorem filterTick_inv {c : Config} {f : FilterRegs} (hc : c.legal = true) (hf : f.Inv c) (raw : RawSample) :
    (filterTick c f raw).Inv c := by
  obtain ⟨-, ⟨-, hn⟩, -, hreset⟩ := c.legal_iff.mp hc
  have hstable : (filterStep c f (classify c raw).code).stable.toNat ≤ 6 :=
    filterStep_stable_le hf.stable_le (symbolCode_toNat_le _)
  unfold filterTick
  refine ⟨?_, ?_, ?_, fun ho => ?_⟩
  · rwa [filterOutput_stable]
  · obtain h | h := filterOutput_fout c (filterStep c f (classify c raw).code) <;> rwa [h]
  · rw [filterOutput_dcount]
    exact filterStep_dcount_le f _ hn
  · rw [filterOutput_of_continuous _ ho]
    exact ⟨rfl, (filterStep_armed c f _).trans (hf.continuous ho).2⟩

/-! ### The scheduler registers -/

/-- R44 for the scheduler's registers. -/
structure State.SchedInv (s : State) : Prop where
  mode_le : s.mode.toNat ≤ 2
  txPos_lt : s.mode = modeTx → s.txPos.toNat < txLen s.cfg.addr s.txCmd
  waitLeft_le : s.mode = modeWait → s.waitLeft.toNat ≤ s.cfg.repeatWait.toNat + s.cfg.resumeGap.toNat - 1

theorem mode_ne_three {m : ModeCode} (h : m.toNat ≤ 2) : m ≠ 3 := by
  rintro rfl
  revert h
  decide

theorem State.SchedInv.of_ready {s : State} (h : s.mode = modeReady) : s.SchedInv :=
  ⟨by simp [h], by simp [h], by simp [h]⟩

theorem State.SchedInv.of_tx {s : State} (h : s.mode = modeTx) (hpos : s.txPos.toNat < txLen s.cfg.addr s.txCmd) :
    s.SchedInv :=
  ⟨by simp [h], fun _ => hpos, by simp [h]⟩

theorem State.SchedInv.of_wait {s : State} (h : s.mode = modeWait)
    (hleft : s.waitLeft.toNat ≤ s.cfg.repeatWait.toNat + s.cfg.resumeGap.toNat - 1) : s.SchedInv :=
  ⟨by simp [h], by simp [h], fun _ => hleft⟩

/-- The wait after a transmission is at most `R + G` ticks (R158). -/
theorem post_le (c : Config) (v : Bool) : post c v ≤ c.repeatWait.toNat + c.resumeGap.toNat := by
  unfold post
  split <;> omega

theorem State.toNat_setTxPos (s : State) {n : Nat} (h : n < 512) : (s.setTxPos n).txPos.toNat = n :=
  Nat.mod_eq_of_lt h

theorem State.toNat_setWaitLeft (s : State) {n : Nat} (h : n < 65536) : (s.setWaitLeft n).waitLeft.toNat = n :=
  Nat.mod_eq_of_lt h

/-- The scheduler stage keeps R44's ranges: `tx_pos` advances below the length alone, and a wait starts below `R + G`. -/
theorem State.SchedInv.scheduled {s : State} (hs : s.SchedInv) (hc : s.cfg.legal = true) : s.scheduled.SchedInv := by
  obtain ⟨-, -, hwait, -⟩ := s.cfg.legal_iff.mp hc
  have hlen := txLen_le s.cfg.addr s.txCmd
  have hpost := post_le s.cfg s.txVol
  obtain hm | hm | hm | hm := mode_cases s.mode
  · rw [State.scheduled, if_pos hm]
    exact .of_ready hm
  · have hpos := hs.txPos_lt hm
    rw [State.scheduled, if_neg (by simp [hm]), if_pos hm]
    split_ifs with hadv hlast hpost0
    · refine .of_tx hm ?_
      rw [State.setEval_txPos, State.toNat_setTxPos s (by omega)]
      exact hadv
    · exact .of_ready rfl
    · refine .of_wait rfl ?_
      rw [State.setEval_waitLeft, State.toNat_setWaitLeft _ (by omega)]
      exact Nat.sub_le_sub_right hpost 1
    · exact .of_tx hm hpos
  · have hleft := hs.waitLeft_le hm
    rw [State.scheduled, if_neg (by simp [hm]), if_neg (by simp [hm])]
    split_ifs with hzero
    · exact .of_ready rfl
    · refine .of_wait hm ?_
      rw [State.setEval_waitLeft, State.toNat_setWaitLeft _ (by omega)]
      exact (Nat.sub_le _ 1).trans hleft
  · exact absurd hm (mode_ne_three hs.mode_le)

/-- The dispatcher stage keeps them too: an emission starts a transmission at its first tick (R170). -/
theorem State.SchedInv.dispatched {s : State} (hs : s.SchedInv) : s.dispatched.SchedInv := by
  obtain ⟨-, h⟩ | ⟨-, h⟩ | ⟨-, c, v, h⟩ := s.dispatched_cases <;> rw [h]
  · exact ⟨hs.mode_le, hs.txPos_lt, hs.waitLeft_le⟩
  · exact ⟨hs.mode_le, hs.txPos_lt, hs.waitLeft_le⟩
  · exact .of_tx rfl (txLen_pos s.cfg.addr c)

/-! ### The pin -/

/-- Below the end of the waveform the pin stage drives the waveform's own level (R199). -/
theorem drive_pin_of_tx {s : State} (hm : s.mode = modeTx) (hpos : s.txPos.toNat < txLen s.cfg.addr s.txCmd) :
    (txWave s.cfg.addr s.txCmd)[s.txPos.toNat]? = some (drive s).pin := by
  rw [← length_txWave] at hpos
  simp [drive, hm, hpos]

theorem drive_pin_of_not_tx {s : State} (hm : s.mode ≠ modeTx) : (drive s).pin = true := by
  simp [drive, hm]

/-! ### The whole invariant -/

theorem State.Inv.filterInv {s : State} (hs : s.Inv) : s.filter.Inv s.cfg :=
  ⟨hs.stable_le, hs.fout_le, hs.dcount_lt, hs.continuous⟩

/-- The end of a tick has the invariant, where the state the dispatcher left has its parts: the pin stage makes the rest. -/
theorem inv_of_drive {s : State} (hlegal : s.cfg.legal = true) (hreset : s.hasReset = true) (hslot : s.slot = none)
    (hfilter : s.filter.Inv s.cfg) (hprev : s.prev.toNat ≤ 6) (hsched : s.SchedInv) : (drive s).clearLoc.Inv where
  legal := hlegal
  hasReset := hreset
  slot := hslot
  loc := rfl
  stable_le := hfilter.stable_le
  fout_le := hfilter.fout_le
  prev_le := hprev
  mode_le := hsched.mode_le
  dcount_lt := hfilter.dcount_le
  txPos_lt := hsched.txPos_lt
  waitLeft_le := hsched.waitLeft_le
  continuous := hfilter.continuous
  pin_idle := drive_pin_of_not_tx
  pin_tx hm := drive_pin_of_tx hm (hsched.txPos_lt hm)

/-- From the invariant OP_TICK meets no fault (R222, R184): the mode is defined, and so is the symbol an evaluation reads. -/
theorem State.Inv.execOpTick_eq {s : State} (hs : s.Inv) (raw : RawSample) : execOpTick raw s = .next (s.ticked raw) := by
  refine execOpTick_eq_ticked raw hs.hasReset (mode_ne_three hs.mode_le) fun _ h7 => ?_
  have hle := (filterTick_inv hs.legal hs.filterInv raw).fout_le
  rw [h7] at hle
  exact absurd hle (by decide)

theorem State.Inv.ticked_keepsSetting {s : State} (hs : s.Inv) (raw : RawSample) : s.KeepsSetting (s.ticked raw) :=
  execOpTick_keepsSetting raw s _ (hs.execOpTick_eq raw)

/-- OP_TICK keeps the invariant. -/
theorem State.Inv.ticked {s : State} (hs : s.Inv) (raw : RawSample) : (s.ticked raw).Inv := by
  have hset := hs.ticked_keepsSetting raw
  have hfilter : (s.ticked raw).filter.Inv (s.ticked raw).cfg := by
    rw [s.ticked_filter, hset.cfg]
    exact filterTick_inv hs.legal hs.filterInv raw
  have hprev : (s.ticked raw).prev.toNat ≤ 6 := by
    rw [State.ticked_prev (mode_ne_three hs.mode_le)]
    split
    · exact hfilter.fout_le
    · exact hs.prev_le
  have hlatch : (s.latch raw).SchedInv := ⟨hs.mode_le, hs.txPos_lt, hs.waitLeft_le⟩
  have hsched := hlatch.scheduled hs.legal
  have hfiltered : (s.latch raw).scheduled.filtered.SchedInv := ⟨hsched.mode_le, hsched.txPos_lt, hsched.waitLeft_le⟩
  exact inv_of_drive (hset.cfg ▸ hs.legal) (hset.hasReset hs.hasReset) (hset.slot.trans hs.slot) hfilter hprev
    hfiltered.dispatched

/-- OP_RESET makes the invariant, whatever the registers held (R250, R251). -/
theorem State.resetRegs_inv {s : State} (hc : s.cfg.legal = true) (hslot : s.slot = none) : s.resetRegs.Inv := by
  obtain ⟨-, -, -, hreset⟩ := s.cfg.legal_iff.mp hc
  exact {
    legal := hc
    hasReset := rfl
    slot := hslot
    loc := rfl
    stable_le := hreset
    fout_le := hreset
    prev_le := by simp
    mode_le := by simp
    dcount_lt := by simp
    txPos_lt := by simp
    waitLeft_le := by simp
    continuous := fun _ => ⟨rfl, rfl⟩
    pin_idle := fun _ => rfl
    pin_tx := by simp }

theorem State.Inv.withInput {s : State} (hs : s.Inv) (ws : List StimWord) : (s.withInput ws).Inv where
  __ := hs

theorem State.Inv.of_step {s t : State} (hs : s.Inv) (h : step s = .next t) : t.Inv := by
  obtain ⟨hlegal, ⟨i, hslot, -⟩ | ⟨-, -, rfl⟩ | ⟨w, ws, i, hslot, -, hi, ht⟩⟩ := step_next_cases h
  · exact absurd (hs.slot.symm.trans hslot) nofun
  · exact hs
  · obtain rfl | ⟨raw, rfl⟩ := decodeStim_cases hi
    · cases ht
      exact State.resetRegs_inv hlegal hslot
    · have htick : execOpTick raw (s.withInput ws) = .next t := ht
      rw [(hs.withInput ws).execOpTick_eq] at htick
      cases htick
      exact (hs.withInput ws).ticked raw

/-! ### Runs -/

/-- A property that every step keeps holds at the end of every run that goes on from a state with it. -/
theorem runSteps_keeps {P : State → Prop} (hstep : ∀ s t, P s → step s = .next t → P t) {k : Nat} {s t : State}
    (hs : P s) (h : runSteps k s = .next t) : P t := by
  induction k generalizing s with
  | zero =>
    cases h
    exact hs
  | succ k ih =>
    obtain ⟨u, hu, ht⟩ := andThen_eq_next.mp h
    exact ih (hstep s u hs hu) ht

theorem State.Inv.of_runSteps {k : Nat} {s t : State} (hs : s.Inv) (h : runSteps k s = .next t) : t.Inv :=
  runSteps_keeps (fun _ _ hu => hu.of_step) hs h

end Sys2Proof.Machine
end

section
/-! SUPPORT. A step in each of its three forms: the probe, no word pending, and a stimulus word (R21). -/

namespace Sys2Proof.Machine

theorem step_of_slot {s : State} {i : Instr} (hc : s.cfg.legal = true) (hslot : s.slot = some i) :
    step s = exec i s.dropSlot := by
  simp [step_eq, hc, hslot]

theorem step_of_no_input {s : State} (hc : s.cfg.legal = true) (hslot : s.slot = none) (hin : s.input = []) :
    step s = .next s := by
  simp [step_eq, hc, hslot, hin]

theorem step_of_decodeStim {s : State} {w : StimWord} {ws : List StimWord} {i : Instr} (hc : s.cfg.legal = true)
    (hslot : s.slot = none) (hin : s.input = w :: ws) (hi : decodeStim w = some i) : step s = exec i (s.withInput ws) := by
  simp [step_eq, hc, hslot, hin, hi]

/-- A word with `rst = 1` spells OP_RESET, whatever its other bits (R75). -/
theorem decodeStim_of_rst {w : StimWord} (h : w.getLsbD 15 = true) : decodeStim w = some .opReset := by
  have hbit : w &&& 0x8000#16 = 0x8000#16 := by
    have hand := BitVec.and_twoPow w 15
    rwa [if_pos h] at hand
  exact if_pos hbit

/-- The first word of a run with `rst = 1` resets the block. -/
theorem step_of_rst {s : State} {w : StimWord} {ws : List StimWord} (hc : s.cfg.legal = true) (hslot : s.slot = none)
    (hin : s.input = w :: ws) (h : w.getLsbD 15 = true) : step s = .next (s.withInput ws).resetRegs :=
  step_of_decodeStim hc hslot hin (decodeStim_of_rst h)

end Sys2Proof.Machine
end

section
/-! The statements of spec 10_state.md. -/

namespace Sys2Proof.Machine

/-- Settles O6. -/
theorem stepRunsDecodedOperation : Obligations.StepRunsDecodedOperation :=
  fun _ _ _ _ hc hslot hin hi => step_of_decodeStim hc hslot hin hi

/-- Settles O7. -/
theorem withoutTickStateIsHeld : Obligations.WithoutTickStateIsHeld :=
  fun _ hc hslot hin => step_of_no_input hc hslot hin

/-- Settles O8. -/
theorem probeSlotRunsItsOperation : Obligations.ProbeSlotRunsItsOperation :=
  fun _ _ hc hslot => step_of_slot hc hslot

/-- Settles O13: under the invariant no check of a tick applies, and the tick is the composition of its stages. -/
theorem tickCompletesUnderInvariant : Obligations.TickCompletesUnderInvariant := by
  intro raw s hs
  have hset := hs.ticked_keepsSetting raw
  exact ⟨s.ticked raw, hs.execOpTick_eq raw, s.ticked_filter raw, State.ticked_prev (mode_ne_three hs.mode_le) raw, rfl,
    hset.cfg, hset.input, hset.slot, hset.hasReset hs.hasReset⟩

/-- Settles O47: OP_RESET makes the invariant and OP_TICK keeps it, part by part. -/
theorem invariantKeptByStep : Obligations.InvariantKeptByStep :=
  fun _ _ hs h => hs.of_step h

/-- Settles O49: the first step makes the invariant and the others keep it. -/
theorem registerRangesAfterReset : Obligations.RegisterRangesAfterReset := by
  intro s t w ws k hc hslot hin hrst h
  rw [runSteps, step_of_rst hc hslot hin hrst, andThen_next] at h
  have ht : t.Inv := (State.resetRegs_inv (s := s.withInput ws) hc hslot).of_runSteps h
  exact ⟨ht.stable_le, ht.fout_le, ht.prev_le, ht.mode_le, ht.dcount_lt, ht.txPos_lt, ht.waitLeft_le, ht.continuous,
    ht.pin_idle⟩

end Sys2Proof.Machine
end

section
/-! SUPPORT. The registers each format may write (R53), as a relation between the states before and after an operation: it holds
where nothing is written, so it holds of a guarded write where it holds of the write, and with that of every operation. -/

namespace Sys2Proof.Machine

/-- `t` differs from `s` in registers that an operation of format `f` may write (R53), and in no others; `prev` is none of PSEL's,
for the evaluation records it (R161). A stimulus operation has the setting alone to keep (R7, R20). -/
def State.WritesOnly (f : Format) (s t : State) : Prop :=
  match f with
  | .csel | .esel => t = { s with loc := t.loc }
  | .dsel => t = { s with stable := t.stable, dcount := t.dcount }
  | .osel => t = { s with fout := t.fout, armed := t.armed }
  | .ssel => t = { s with mode := t.mode, txPos := t.txPos, waitLeft := t.waitLeft, loc := t.loc }
  | .psel => t = { s with mode := t.mode, txCmd := t.txCmd, txPos := t.txPos, txVol := t.txVol,
                          cmdStrobe := t.cmdStrobe, cmdCode := t.cmdCode }
  | .stim => t.cfg = s.cfg ∧ t.input = s.input ∧ t.slot = s.slot

namespace State.WritesOnly

theorem refl (f : Format) (s : State) : WritesOnly f s s := by
  cases f with
  | stim => exact ⟨rfl, rfl, rfl⟩
  | _ => rfl

/-- A guarded write, as the pseudocode of the operations has it: the write or nothing. -/
theorem guarded {f : Format} {p : Prop} [Decidable p] {s t : State} (h : WritesOnly f s t) :
    WritesOnly f s (if p then t else s) := by
  split
  · exact h
  · exact refl f s

theorem of_keepsSetting {s t : State} (h : s.KeepsSetting t) : WritesOnly .stim s t := ⟨h.cfg, h.input, h.slot⟩

end State.WritesOnly

/-! ### The writes of each format -/

theorem State.setSym_writesOnly (s : State) (c : SymCode) : WritesOnly .csel s (s.setSym c) := rfl
theorem State.appendSeg_writesOnly (s : State) (b : Bool) (n : Nat) : WritesOnly .esel s (s.appendSeg b n) := rfl
theorem State.setDcount_writesOnly (s : State) (n : Nat) : WritesOnly .dsel s (s.setDcount n) := rfl
theorem State.commit_writesOnly (s : State) (c : SymCode) : WritesOnly .dsel s (s.commit c) := rfl
theorem State.setFout_writesOnly (s : State) (c : SymCode) : WritesOnly .osel s (s.setFout c) := rfl
theorem State.setFout_setArmed_writesOnly (s : State) (c : SymCode) (b : Bool) :
    WritesOnly .osel s ((s.setFout c).setArmed b) := rfl
theorem State.setEval_writesOnly (s : State) (b : Bool) : WritesOnly .ssel s (s.setEval b) := rfl
theorem State.setTxPos_setEval_writesOnly (s : State) (n : Nat) (b : Bool) :
    WritesOnly .ssel s ((s.setTxPos n).setEval b) := rfl
theorem State.setMode_setEval_writesOnly (s : State) (m : ModeCode) (b : Bool) :
    WritesOnly .ssel s ((s.setMode m).setEval b) := rfl
theorem State.setWaitLeft_setEval_writesOnly (s : State) (n : Nat) (b : Bool) :
    WritesOnly .ssel s ((s.setWaitLeft n).setEval b) := rfl
theorem State.setMode_setWaitLeft_setEval_writesOnly (s : State) (m : ModeCode) (n : Nat) (b : Bool) :
    WritesOnly .ssel s (((s.setMode m).setWaitLeft n).setEval b) := rfl
theorem State.emit_writesOnly (s : State) (c : CmdCode) (v : Bool) : WritesOnly .psel s (s.emit c v) := rfl

/-- An operation that answers `u` leaves `u`, so what it wrote is what `u` shows. -/
theorem writesOnly_of_next {f : Format} {s u : State} (h : s.WritesOnly f u) {t : State}
    (ht : Host.Outcome.next u = (.next t : Result)) : s.WritesOnly f t := by
  cases ht
  exact h

/-- Every operation writes registers of its own format only. -/
theorem exec_writesOnly {i : Instr} {s t : State} (h : exec i s = .next t) : s.WritesOnly i.row.fmt t := by
  cases i with
  | opReset | opTick => exact .of_keepsSetting (exec_keepsSetting _ s t h)
  | clsVolup | clsVoldn | clsSource | clsSeekf | clsSeekb | clsExtra | clsIdle =>
    exact writesOnly_of_next (s.setSym_writesOnly _) h
  | dbMatch | dbCount => exact writesOnly_of_next (.guarded (s.setDcount_writesOnly _)) h
  | dbCommit => exact writesOnly_of_next (.guarded (s.commit_writesOnly _)) h
  | outCont | outSupp => exact writesOnly_of_next (.guarded (s.setFout_writesOnly _)) h
  | outRearm | outShot => exact writesOnly_of_next (.guarded (s.setFout_setArmed_writesOnly _ _)) h
  | schEval => exact writesOnly_of_next (.guarded (s.setEval_writesOnly _)) h
  | schTxAdv => exact writesOnly_of_next (.guarded (s.setTxPos_setEval_writesOnly _ _)) h
  | schTxDoneEval | schWaitDone => exact writesOnly_of_next (.guarded (s.setMode_setEval_writesOnly _ _)) h
  | schTxDoneWait => exact writesOnly_of_next (.guarded (s.setMode_setWaitLeft_setEval_writesOnly _ _ _)) h
  | schWaitDec => exact writesOnly_of_next (.guarded (s.setWaitLeft_setEval_writesOnly _ _)) h
  | dspIdle | dspSourceHold | dspExtraHold => exact writesOnly_of_next (.refl .psel s) h
  | dspVolup | dspVoldn | dspSourceEdge | dspSeekfFirst | dspSeekfHeld | dspSeekfHeldSame | dspSeekbFirst | dspSeekbHeld
  | dspSeekbHeldSame | dspExtraEdge => exact writesOnly_of_next (s.emit_writesOnly _ _) h
  | encBusrst | encAgcLow | encAgcHigh | encMark | encSpace => exact writesOnly_of_next (s.appendSeg_writesOnly _ _) h
  | encExt => exact writesOnly_of_next (.guarded (s.appendSeg_writesOnly _ _)) h

end Sys2Proof.Machine
end

section
/-! The statement of spec 20_memory.md. -/

namespace Sys2Proof.Machine

/-- Settles O46: the frame of each operation, read at its own format. -/
theorem operationsWriteOnlyTheirRegisters : Obligations.OperationsWriteOnlyTheirRegisters := by
  intro i s t h
  have hw : s.WritesOnly i.row.fmt t := exec_writesOnly h
  generalize i.row.fmt = f at hw ⊢
  cases f <;> exact hw

end Sys2Proof.Machine
end

section
/-! SUPPORT. The STIM word (R74, R75): its two row masks as facts about bit 15 and bits 14:10, and the decoder in those terms. -/

namespace Sys2Proof

theorem and_rstMask_iff (w : BitVec 16) : w &&& 0x8000#16 = 0x8000#16 ↔ w.getLsbD 15 = true := by
  have hand : w &&& 0x8000#16 = if w.getLsbD 15 then 0x8000#16 else 0#16 := BitVec.and_twoPow w 15
  rw [hand]
  cases w.getLsbD 15 <;> decide

/-- The mask of OP_TICK covers the reset bit 15 and the reserved bits 14:10. -/
theorem and_tickMask_iff (w : BitVec 16) :
    w &&& 0xFC00#16 = 0x0000#16 ↔ w.getLsbD 15 = false ∧ w.extractLsb' 10 5 = 0#5 := by
  have hmask : ∀ i < 16, (0xFC00#16).getLsbD i = decide (10 ≤ i) := by decide
  simp only [BitVec.eq_of_getLsbD_eq_iff, BitVec.getLsbD_and, BitVec.getLsbD_extractLsb', BitVec.getLsbD_zero]
  constructor
  · intro hand
    refine ⟨by simpa [hmask] using hand 15 (by omega), fun j hj => ?_⟩
    simpa [hmask (10 + j) (by omega), hj] using hand (10 + j) (by omega)
  · rintro ⟨hrst, hreserved⟩ i hi
    rw [hmask i hi]
    obtain hlow | hmid | rfl : i < 10 ∨ (10 ≤ i ∧ i < 15) ∨ i = 15 := by omega
    · simp [Nat.not_le.mpr hlow]
    · have hbit := hreserved (i - 10) (by omega)
      rw [Nat.add_sub_cancel' hmid.1, decide_eq_true (by omega), Bool.true_and] at hbit
      rw [hbit, Bool.false_and]
    · rw [hrst, Bool.false_and]

/-- R75 by bit fields: `rst`, the reserved bits, the raw sample. -/
theorem decodeStim_eq (w : BitVec 16) :
    decodeStim w =
      if w.getLsbD 15 = true then some .opReset
      else if w.extractLsb' 10 5 = 0#5 then some (.opTick (w.extractLsb' 0 10))
      else none := by
  unfold decodeStim
  simp only [and_rstMask_iff, and_tickMask_iff]
  cases w.getLsbD 15
  · simp only [true_and]
  · rfl

theorem decodeStim_of_tick {w : BitVec 16} (hrst : w.getLsbD 15 = false) (hreserved : w.extractLsb' 10 5 = 0#5) :
    decodeStim w = some (.opTick (w.extractLsb' 0 10)) := by
  rw [decodeStim_eq, if_neg (Bool.eq_false_iff.mp hrst), if_pos hreserved]

theorem decodeStim_of_reserved {w : BitVec 16} (hrst : w.getLsbD 15 = false) (hreserved : w.extractLsb' 10 5 ≠ 0#5) :
    decodeStim w = none := by
  rw [decodeStim_eq, if_neg (Bool.eq_false_iff.mp hrst), if_neg hreserved]

/-- A word that spells no operation is refused (R75). -/
theorem Machine.step_of_reserved {s : Machine.State} {w : StimWord} {ws : List StimWord} (hc : s.cfg.legal = true)
    (hslot : s.slot = none) (hin : s.input = w :: ws) (hw : decodeStim w = none) :
    Machine.step s = .refused .reservedStimulus := by
  simp [Machine.step_eq, hc, hslot, hin, hw]

end Sys2Proof
end

section
/-! SUPPORT. Encoder and decoder against each other, and what a table row says of its operation. -/

namespace Sys2Proof

theorem decode_encode (i : Instr) : decode (encode i) = some i := by
  cases i with
  | opTick raw => exact Machine.decodeStim_tickWord raw
  | _ => rfl

theorem encode_injective {i j : Instr} (h : encode i = encode j) : i = j := by
  have hdec := decode_encode i
  rw [h, decode_encode j] at hdec
  exact (Option.some.inj hdec).symm

/-- The operation as the opcode table lists it: OP_TICK with its raw field 0 (R88). -/
def Instr.listed : Instr → Instr
  | .opTick _ => .opTick 0
  | i => i

/-- A row's match value, as a word of the row's format, encodes the row's operation. -/
theorem encode_listed (i : Instr) : encode i.listed = OpWord.ofBits i.row.fmt i.row.pattern := by
  cases i <;> rfl

/-- Two operations of one row are the same, or both OP_TICK, with the same operand or not. -/
theorem eq_or_opTick_of_row_eq {i j : Instr} (h : i.row = j.row) :
    i = j ∨ ∃ r r', i = .opTick r ∧ j = .opTick r' := by
  have hlisted : i.listed = j.listed := encode_injective (by rw [encode_listed, encode_listed, h])
  unfold Instr.listed at hlisted
  split at hlisted <;> split at hlisted
  next r _ r' => exact .inr ⟨r, r', rfl, rfl⟩
  next hj => exact absurd hlisted.symm (hj 0)
  next hi _ _ => exact absurd hlisted (hi 0)
  next => exact .inl hlisted

end Sys2Proof
end

section
/-! SUPPORT. The opcode table against the decoder: the rows that select a word are the row of the operation it decodes to (R82). -/

namespace Sys2Proof

/-- The rows of one format, in table order. -/
def rowsOf (f : Format) : List Row := opcodeTable.filter fun r => decide (f = r.fmt)

/-- Only the rows of a word's own format can select it. -/
theorem filter_selects (w : OpWord) :
    (opcodeTable.filter fun r => r.selects w) =
      (rowsOf w.fmt).filter fun r => decide (w.bits &&& r.mask = r.pattern) := by
  rw [rowsOf, List.filter_filter]
  simp only [Row.selects, Bool.and_comm]

theorem toNat_and_eq_iff {n : Nat} (w mask pattern : BitVec n) :
    w.toNat &&& mask.toNat = pattern.toNat ↔ w &&& mask = pattern := by
  rw [← BitVec.toNat_and, BitVec.toNat_inj]

theorem filter_selects_stim (w : BitVec 16) :
    (opcodeTable.filter fun r => r.selects (.stim w)) = ((decodeStim w).map Instr.row).toList := by
  have hrows : rowsOf .stim = [Instr.opReset.row, (Instr.opTick 0).row] := by decide
  have hreset : w.toNat &&& 0x8000 = 0x8000 ↔ _ := (toNat_and_eq_iff w 0x8000#16 0x8000#16).trans (and_rstMask_iff w)
  have htick : w.toNat &&& 0xFC00 = 0x0000 ↔ _ := (toNat_and_eq_iff w 0xFC00#16 0x0000#16).trans (and_tickMask_iff w)
  rw [filter_selects, decodeStim_eq, OpWord.fmt, hrows]
  simp only [List.filter_cons, List.filter_nil, OpWord.bits, Instr.row, hreset, htick, decide_eq_true_eq]
  cases w.getLsbD 15
  · by_cases hreserved : w.extractLsb' 10 5 = 0#5
    · simp only [hreserved]; rfl
    · simp only [hreserved]; rfl
  · rfl

/-- The rows of the opcode table that select a word: the row of the operation it decodes to, or none if it is reserved. -/
theorem filter_selects_eq_decode (w : OpWord) :
    (opcodeTable.filter fun r => r.selects w) = ((decode w).map Instr.row).toList := by
  cases w with
  | stim w => exact filter_selects_stim w
  | csel w => rw [filter_selects]; revert w; decide
  | dsel w => rw [filter_selects]; revert w; decide
  | osel w => rw [filter_selects]; revert w; decide
  | ssel w => rw [filter_selects]; revert w; decide
  | psel w => rw [filter_selects]; revert w; decide
  | esel w => rw [filter_selects]; revert w; decide

theorem row_mem_opcodeTable (i : Instr) : i.row ∈ opcodeTable := by
  cases i with
  | opTick raw => exact (by decide : (Instr.opTick 0).row ∈ opcodeTable)
  | _ => decide

/-- An operation's row selects a word exactly when the word decodes to an operation of that row. -/
theorem row_selects_iff (w : OpWord) (i : Instr) :
    i.row.selects w = true ↔ ∃ j, decode w = some j ∧ j.row = i.row := by
  have hmem : i.row ∈ (opcodeTable.filter fun r => r.selects w) ↔ i.row.selects w = true := by
    rw [List.mem_filter]
    exact and_iff_right (row_mem_opcodeTable i)
  rw [← hmem, filter_selects_eq_decode, Option.mem_toList, Option.map_eq_some_iff]

/-- The operand of OP_TICK is bits 9:0 of its word (R75). -/
theorem toNat_raw_of_decode {w : OpWord} {raw : RawSample} (h : decode w = some (.opTick raw)) :
    raw.toNat = w.bits % 1024 := by
  have hsel : (Instr.opTick raw).row.selects w = true := (row_selects_iff w _).mpr ⟨_, h, rfl⟩
  cases w with
  | stim v =>
    rw [decode, decodeStim_eq] at h
    split_ifs at h with hrst hreserved
    · cases h
    · cases h
      rw [BitVec.extractLsb'_toNat, Nat.shiftRight_zero]
      rfl
  | _ => cases hsel

/-- The words that decode are the well-formed ones (R75, R82, R83). -/
theorem isSome_decode (w : OpWord) : (decode w).isSome = w.wellFormed := by
  cases w with
  | stim w =>
    rw [decode, decodeStim_eq, OpWord.wellFormed]
    cases w.getLsbD 15
    · by_cases hreserved : w.extractLsb' 10 5 = 0#5 <;> simp [hreserved]
    · rfl
  | csel | dsel | osel => rfl
  | ssel w => revert w; decide
  | psel w => revert w; decide
  | esel w => revert w; decide

theorem length_filter_selects (w : OpWord) :
    (opcodeTable.filter fun r => r.selects w).length = if w.wellFormed = true then 1 else 0 := by
  rw [filter_selects_eq_decode, Option.length_toList, Option.isSome_map, isSome_decode]

end Sys2Proof
end

section
/-! SUPPORT. What a tick that goes on has passed, and what its evaluation leaves: the inverse of `execOpTick_eq_ticked`, and the
state after an evaluation tick with and without a command (R73, R160, R170, R199). -/

namespace Sys2Proof.Machine

/-! ### A tick that goes on -/

theorem mode_ne_three_of_schedStage {s t : State} (h : schedStage s = .next t) : s.mode ≠ 3 := by
  intro h3
  rw [schedStage_eq, h3] at h
  cases h

/-- An evaluation that goes on read a defined symbol (R184). -/
theorem fout_ne_seven_of_dispatchStage {s t : State} (h : dispatchStage s = .next t) (heval : s.loc.eval = true) :
    s.fout ≠ 7 := by
  intro h7
  have hfault : evaluate s.clearStrobe = .fault .reservedSymbol := (evaluate_eq _).trans (if_pos h7)
  rw [dispatchStage_eq, if_pos heval, hfault] at h
  cases h

/-- A tick that goes on met no fault, and its next state is the composition of its stages. -/
theorem eq_ticked_of_execOpTick {raw : RawSample} {s t : State} (h : execOpTick raw s = .next t) :
    s.mode ≠ 3 ∧ t = s.ticked raw := by
  obtain ⟨hreset, s1, s2, s3, s4, s5, -, hsched, hclass, hfilter, hout, hdispatch, -⟩ := execOpTick_eq_next.mp h
  have hmode : s.mode ≠ 3 := mode_ne_three_of_schedStage (s := s.latch raw) hsched
  rw [schedStage_eq_scheduled (s := s.latch raw) hmode] at hsched
  cases hsched
  have hs4 : (.next s4 : Result) = .next (s.latch raw).scheduled.filtered := by
    rw [← classFilterOutput_eq, hclass, andThen_next, hfilter, andThen_next, hout]
  cases hs4
  have hticked := execOpTick_eq_ticked raw hreset hmode fun heval => by
    rw [← State.filtered_eval_of_latch hmode raw] at heval
    rw [← s.filtered_filter_of_latch raw]
    exact fout_ne_seven_of_dispatchStage hdispatch heval
  rw [hticked] at h
  cases h
  exact ⟨hmode, rfl⟩

/-! ### An evaluation tick -/

/-- The scheduler stage of an evaluation tick leaves READY with `eval` set, and writes nothing else (R152, R154, R157). -/
theorem State.scheduled_of_evaluates {s : State} (hmode : s.mode ≠ 3) (h : s.evaluates = true) :
    s.scheduled = (s.setMode modeReady).setEval true := by
  unfold State.evaluates at h
  unfold State.scheduled
  obtain hm | hm | hm | hm := mode_cases s.mode
  · have hsame : s.setMode modeReady = s := by rw [State.setMode, ← hm]
    rw [if_pos hm, hsame]
  · obtain ⟨hlast, hpost⟩ : s.txPos.toNat + 1 = txLen s.cfg.addr s.txCmd ∧ post s.cfg s.txVol = 0 := by
      simpa [hm] using h
    simp [hm, hlast, hpost]
  · have hzero : s.waitLeft = 0 := by simpa [hm] using h
    simp [hm, hzero]
  · exact absurd hm hmode

/-- An evaluation tick is the evaluation, on the filter one tick on and in READY, and the level of the pin. -/
theorem State.ticked_of_evaluates {s : State} (hmode : s.mode ≠ 3) (h : s.evaluates = true) (raw : RawSample) :
    s.ticked raw =
      (drive (((s.latch raw).setMode modeReady).setEval true).filtered.clearStrobe.evaluated).clearLoc := by
  rw [State.ticked, State.scheduled_of_evaluates (s := s.latch raw) hmode h]
  rfl

theorem State.evaluated_of_command {s : State} {c : CmdCode} {v : Bool}
    (h : commandFor s.cfg s.prev s.fout = some (c, v)) : s.evaluated = (s.emit c v).setPrev s.fout := by
  rw [State.evaluated, h]

theorem State.evaluated_of_no_command {s : State} (h : commandFor s.cfg s.prev s.fout = none) :
    s.evaluated = s.setPrev s.fout := by
  rw [State.evaluated, h]

/-- Every transmission starts with the high level of the bus-reset pulse (R190, R197). -/
theorem txWave_zero (addr c : CmdCode) : (txWave addr c)[0]? = some true := rfl

theorem drive_pin_of_first {s : State} (hm : s.mode = modeTx) (hpos : s.txPos = 0) : (drive s).pin = true := by
  simp [drive, hm, hpos, txWave_zero]

end Sys2Proof.Machine
end

section
/-! The statements of spec 30_encoding.md. -/

namespace Sys2Proof.Machine

/-- Settles O1: the rows that select a word are its operation's row and no other, and a row leaves only OP_TICK's operand open. -/
theorem decoderAgreesWithOpcodeTable : Obligations.DecoderAgreesWithOpcodeTable := by
  intro w i
  constructor
  · intro hdec
    refine ⟨(row_selects_iff w i).mpr ⟨i, hdec, rfl⟩, ?_⟩
    rintro raw rfl
    exact toNat_raw_of_decode hdec
  · rintro ⟨hsel, hraw⟩
    obtain ⟨j, hdec, hrow⟩ := (row_selects_iff w i).mp hsel
    obtain rfl | ⟨r, r', rfl, rfl⟩ := eq_or_opTick_of_row_eq hrow
    · exact hdec
    · have heq : r = r' := BitVec.eq_of_toNat_eq ((toNat_raw_of_decode hdec).trans (hraw r' rfl).symm)
      rw [hdec, heq]

/-- Settles O2: the decoder is a left inverse of the encoder, which is therefore injective. -/
theorem decodeOfEncodeIsIdentity : Obligations.DecodeOfEncodeIsIdentity :=
  fun i _ => ⟨decode_encode i, encode_injective⟩

/-- Settles O3: one row for a well-formed word and none for a reserved one, the reserved words read off each format. -/
theorem everyWordHasOneRowOrIsReserved : Obligations.EveryWordHasOneRowOrIsReserved := by
  intro w
  rw [length_filter_selects]
  cases w with
  | stim v => simp [OpWord.wellFormed]
  | csel | dsel | osel => rfl
  | ssel v => revert v; decide
  | psel v => revert v; decide
  | esel v => simp [OpWord.wellFormed]

/-- Settles O36: the evaluation finds READY, emits the table's command or nothing, and the pin stage drives the first level of the
new waveform or the idle level, both high. -/
theorem evaluationSendsTableCommand : Obligations.EvaluationSendsTableCommand := by
  intro raw s t ht heval
  obtain ⟨hmode, rfl⟩ := eq_ticked_of_execOpTick ht
  rw [s.ticked_fout, State.ticked_of_evaluates hmode heval]
  cases hcmd : commandFor s.cfg s.prev (filterTick s.cfg s.filter raw).fout with
  | some cv =>
    rw [State.evaluated_of_command hcmd]
    exact ⟨rfl, rfl, rfl, rfl, rfl, rfl, (State.clearLoc_pin _).trans (drive_pin_of_first rfl rfl)⟩
  | none =>
    rw [State.evaluated_of_no_command hcmd]
    exact ⟨rfl, rfl, rfl, rfl, rfl, rfl, (State.clearLoc_pin _).trans (drive_pin_of_not_tx modeReady_ne_tx)⟩

/-- Settles O4: the three cases of `decodeStim_eq`, and the step that takes a word of the last. -/
theorem stimulusWordDecoding : Obligations.StimulusWordDecoding := by
  intro w
  refine ⟨decodeStim_of_rst, decodeStim_of_tick, fun hrst hreserved => ?_⟩
  have hdec := decodeStim_of_reserved hrst hreserved
  exact ⟨hdec, fun _ _ hc hslot hin => step_of_reserved hc hslot hin hdec⟩

/-- Settles O5. -/
theorem writtenWordsDecode : Obligations.WrittenWordsDecode := by
  unfold Obligations.WrittenWordsDecode
  decide

end Sys2Proof.Machine
end

section
/-! SUPPORT. The classifier by its windows: the window test on integers (R100), and the symbol that R101 picks as the one of
lowest code among those whose window holds the sample. -/

namespace Sys2Proof.Machine

/-! ### Windows -/

theorem inwin_idle (c : Config) (raw : RawSample) : inwin c .idle raw = false := rfl

theorem inwin_of_cal {c : Config} {y : Symbol} {r : CalRow} (h : c.cal y = some r) (raw : RawSample) :
    inwin c y raw = CalRow.holds r c.edges raw := by
  simp only [inwin, h]

/-- The lower bound on naturals is the clamped one on integers. -/
theorem intCast_winLo (r : CalRow) : (winLo r : Int) = max 0 ((r.center : Int) - r.tol) := by
  unfold winLo
  omega

theorem intCast_winHi (r : CalRow) : (winHi r : Int) = (r.center : Int) + r.tol :=
  Int.natCast_add r.center r.tol

theorem CalRow.holds_inclusive_iff (r : CalRow) (raw : RawSample) :
    CalRow.holds r .inclusive raw = true ↔ (winLo r : Int) ≤ raw.toNat ∧ (raw.toNat : Int) ≤ winHi r := by
  simp [CalRow.holds]

theorem CalRow.holds_exclusive_iff (r : CalRow) (raw : RawSample) :
    CalRow.holds r .exclusive raw = true ↔ (winLo r : Int) < raw.toNat ∧ (raw.toNat : Int) < winHi r := by
  simp [CalRow.holds]

/-! ### Priority -/

/-- The six buttons from the highest priority to the lowest, the order in which the classifier tries them (R101). -/
def buttons : List Symbol := [.volUp, .volDown, .source, .seekFwd, .seekBack, .extra]

theorem mem_buttons {y : Symbol} (h : y ≠ .idle) : y ∈ buttons := by
  revert h
  cases y <;> decide

theorem buttons_pairwise : buttons.Pairwise fun y z => y.code.toNat < z.code.toNat := by decide

theorem symbolCode_toNat_injective {y z : Symbol} (h : y.code.toNat = z.code.toNat) : y = z := by
  revert h
  cases y <;> cases z <;> decide

theorem classify_eq_getD (c : Config) (raw : RawSample) :
    classify c raw = (buttons.find? fun y => inwin c y raw).getD .idle := by
  unfold classify buttons
  split
  · next _ y hfind => rw [hfind, Option.getD_some]
  · next _ hfind => rw [hfind, Option.getD_none]

/-- The button found first leaves no button of a lower code to be found. -/
theorem eq_false_of_find?_buttons {p : Symbol → Bool} {y z : Symbol} (hfind : buttons.find? p = some y)
    (hz : z ∈ buttons) (hlt : z.code.toNat < y.code.toNat) : p z = false := by
  obtain ⟨-, before, after, hsplit, hbefore⟩ := List.find?_eq_some_iff_append.mp hfind
  have hsorted := buttons_pairwise
  rw [hsplit] at hz hsorted
  obtain ⟨-, hsorted, -⟩ := List.pairwise_append.mp hsorted
  obtain ⟨hafter, -⟩ := List.pairwise_cons.mp hsorted
  obtain hz | rfl | hz := (List.mem_append.mp hz).imp_right List.mem_cons.mp
  · simpa using hbefore z hz
  · exact absurd hlt (Nat.lt_irrefl _)
  · exact absurd hlt (hafter z hz).not_gt

/-- What the classifier answers: a button whose window holds the sample while no window of a lower code does, or IDLE with no
window holding it. -/
theorem classify_cases (c : Config) (raw : RawSample) :
    (inwin c (classify c raw) raw = true ∧
      ∀ z : Symbol, z.code.toNat < (classify c raw).code.toNat → inwin c z raw = false) ∨
    (classify c raw = .idle ∧ ∀ z : Symbol, inwin c z raw = false) := by
  rw [classify_eq_getD]
  cases hfind : buttons.find? fun y => inwin c y raw with
  | none =>
    refine .inr ⟨rfl, fun z => ?_⟩
    by_cases hz : z = .idle
    · rw [hz, inwin_idle]
    · simpa using List.find?_eq_none.mp hfind z (mem_buttons hz)
  | some y =>
    refine .inl ⟨List.find?_some (p := (inwin c · raw)) hfind, fun z hlt => ?_⟩
    by_cases hz : z = .idle
    · rw [hz, inwin_idle]
    · exact eq_false_of_find?_buttons hfind (mem_buttons hz) hlt

/-- At most one symbol has a window that holds the sample while no window of a lower code does. -/
theorem first_window_unique {c : Config} {raw : RawSample} {y z : Symbol} (hy : inwin c y raw = true)
    (hz : inwin c z raw = true) (hbelow_y : ∀ u : Symbol, u.code.toNat < y.code.toNat → inwin c u raw = false)
    (hbelow_z : ∀ u : Symbol, u.code.toNat < z.code.toNat → inwin c u raw = false) : y = z := by
  obtain hlt | heq | hgt := Nat.lt_trichotomy y.code.toNat z.code.toNat
  · exact absurd hy (Bool.eq_false_iff.mp (hbelow_z y hlt))
  · exact symbolCode_toNat_injective heq
  · exact absurd hz (Bool.eq_false_iff.mp (hbelow_y z hgt))

theorem classify_eq_idle_iff (c : Config) (raw : RawSample) :
    classify c raw = .idle ↔ ∀ z : Symbol, inwin c z raw = false := by
  obtain ⟨hin, -⟩ | ⟨hidle, hnone⟩ := classify_cases c raw
  · constructor
    · intro hidle
      rw [hidle, inwin_idle] at hin
      exact absurd hin Bool.false_ne_true
    · intro hnone
      exact absurd hin (Bool.eq_false_iff.mp (hnone _))
  · exact ⟨fun _ => hnone, fun _ => hidle⟩

theorem classify_eq_button_iff (c : Config) (raw : RawSample) {y : Symbol} (hy : y ≠ .idle) :
    classify c raw = y ↔
      inwin c y raw = true ∧ ∀ z : Symbol, z.code.toNat < y.code.toNat → inwin c z raw = false := by
  obtain ⟨hin, hbelow⟩ | ⟨hidle, hnone⟩ := classify_cases c raw
  · constructor
    · rintro rfl
      exact ⟨hin, hbelow⟩
    · rintro ⟨hwin, hlower⟩
      exact first_window_unique hin hwin hbelow hlower
  · constructor
    · intro h
      exact absurd (h.symm.trans hidle) hy
    · rintro ⟨hwin, -⟩
      exact absurd hwin (Bool.eq_false_iff.mp (hnone y))

/-! ### Selection -/

/-- Every CSEL word selects an operation of its own format (R76, R82). -/
theorem decodeCsel_fmt (h : BitVec 6) : (decodeCsel h).row.fmt = .csel := by
  unfold decodeCsel
  split_ifs <;> rfl

theorem exec_decodeCsel_cselWord (s : State) : exec (decodeCsel (cselWord s)) s = classStage s := by
  have hstage : (decodeCsel (cselWord s)).row.fmt ≠ .stim := by
    rw [decodeCsel_fmt]
    decide
  exact (stageOp_eq_exec _ s hstage).symm

end Sys2Proof.Machine
end

section
/-! The statements of spec 41_classifier.md. -/

namespace Sys2Proof.Machine

/-- Settles O20: the selected operation is the classifier stage, whose result is R101's. -/
theorem classifierSelectsFirstWindow : Obligations.ClassifierSelectsFirstWindow :=
  fun s => ⟨(exec_decodeCsel_cselWord s).trans (classStage_eq s), symbolCode_toNat_le _⟩

/-- Settles O22. -/
theorem overlapResolvedByPriority : Obligations.OverlapResolvedByPriority :=
  fun c raw => ⟨fun _ hy => classify_eq_button_iff c raw hy, classify_eq_idle_iff c raw⟩

/-- Settles O19: `State.setSym` is the whole effect of each operation. -/
theorem classifierOperations : Obligations.ClassifierOperations :=
  fun _ => ⟨rfl, rfl, rfl, rfl, rfl, rfl, rfl⟩

/-- Settles O21: the machine's bounds on naturals are the integer ones of R100. -/
theorem windowMembership : Obligations.WindowMembership := by
  intro c y r raw hcal
  rw [inwin_of_cal hcal, ← intCast_winLo, ← intCast_winHi]
  constructor
  · intro hedges
    rw [hedges, CalRow.holds_inclusive_iff]
  · intro hedges
    rw [hedges, CalRow.holds_exclusive_iff]

end Sys2Proof.Machine
end

section
/-! SUPPORT. The filter step and the output stage by their cases (R120 to R122, R140 to R143), on the filter's own registers, and
the operation that each case selects. -/

namespace Sys2Proof.Machine

/-! ### Cases of the filter step -/

theorem filterStep_of_match {c : Config} {f : FilterRegs} {y : SymCode} (h : y = f.stable) :
    filterStep c f y = { f with dcount := 0 } := if_pos h

theorem filterStep_of_count {c : Config} {f : FilterRegs} {y : SymCode} (hne : y ≠ f.stable)
    (hlt : f.dcount.toNat + 1 < c.n) : filterStep c f y = { f with dcount := f.dcount + 1 } :=
  (if_neg hne).trans (if_pos hlt)

theorem filterStep_of_commit {c : Config} {f : FilterRegs} {y : SymCode} (hne : y ≠ f.stable)
    (hfull : ¬ f.dcount.toNat + 1 < c.n) : filterStep c f y = { f with stable := y, dcount := 0 } :=
  (if_neg hne).trans (if_neg hfull)

/-- The run counter counts on without wrap under a window of R8. -/
theorem toNat_dcount_succ {d : BitVec 16} {n : Nat} (hlt : d.toNat + 1 < n) (hn : n ≤ 65535) :
    (d + 1).toNat = d.toNat + 1 := by
  rw [BitVec.toNat_add]
  exact Nat.mod_eq_of_lt (show d.toNat + 1 < 65536 by omega)

/-! ### Cases of the output stage -/

theorem filterOutput_of_rearm {c : Config} {f : FilterRegs} (hos : c.oneshot ≠ false) (hrst : f.stable = c.resetSym) :
    filterOutput c f = { f with fout := f.stable, armed := true } :=
  (if_neg hos).trans (if_pos hrst)

theorem filterOutput_of_shot {c : Config} {f : FilterRegs} (hos : c.oneshot ≠ false) (hrst : f.stable ≠ c.resetSym)
    (harmed : f.armed = true) : filterOutput c f = { f with fout := f.stable, armed := false } :=
  (if_neg hos).trans ((if_neg hrst).trans (if_pos harmed))

theorem filterOutput_of_suppressed {c : Config} {f : FilterRegs} (hos : c.oneshot ≠ false) (hrst : f.stable ≠ c.resetSym)
    (harmed : f.armed ≠ true) : filterOutput c f = { f with fout := c.resetSym } :=
  (if_neg hos).trans ((if_neg hrst).trans (if_neg harmed))

/-! ### Selection -/

/-- The filter operation that R120 to R122 select. -/
theorem decodeDsel_dselWord (s : State) :
    decodeDsel (dselWord s) = if s.loc.sym = s.stable then .dbMatch
      else if s.dcount.toNat + 1 < s.cfg.n then .dbCount else .dbCommit := by
  rw [dselWord, decodeDsel_bits]
  by_cases hthr : s.dcount.toNat + 1 < s.cfg.n
  · have hfull : ¬ s.cfg.n ≤ s.dcount.toNat + 1 := by omega
    simp [State.eqBit, State.thrBit, hthr, hfull]
  · have hfull : s.cfg.n ≤ s.dcount.toNat + 1 := by omega
    simp [State.eqBit, State.thrBit, hthr, hfull]

/-- The output operation that R140 to R143 select. -/
theorem decodeOsel_oselWord (s : State) :
    decodeOsel (oselWord s) = if s.cfg.oneshot = false then .outCont
      else if s.stable = s.cfg.resetSym then .outRearm else if s.armed = true then .outShot else .outSupp := by
  rw [oselWord, decodeOsel_bits]
  simp [State.isRst]

theorem decodeDsel_fmt (w : BitVec 2) : (decodeDsel w).row.fmt = .dsel := by
  unfold decodeDsel
  split_ifs <;> rfl

theorem decodeOsel_fmt (w : BitVec 3) : (decodeOsel w).row.fmt = .osel := by
  unfold decodeOsel
  split_ifs <;> rfl

/-- The selected filter operation, run on its own, is the filter step on the filter's registers. -/
theorem exec_decodeDsel_dselWord (s : State) :
    exec (decodeDsel (dselWord s)) s = .next (s.setFilter (filterStep s.cfg s.filter s.loc.sym)) := by
  have hstage : (decodeDsel (dselWord s)).row.fmt ≠ .stim := by
    rw [decodeDsel_fmt]
    decide
  exact (stageOp_eq_exec _ s hstage).symm.trans (filterStage_eq_setFilter s)

/-- The selected output operation, run on its own, is the output stage on the filter's registers. -/
theorem exec_decodeOsel_oselWord (s : State) :
    exec (decodeOsel (oselWord s)) s = .next (s.setFilter (filterOutput s.cfg s.filter)) := by
  have hstage : (decodeOsel (oselWord s)).row.fmt ≠ .stim := by
    rw [decodeOsel_fmt]
    decide
  exact (stageOp_eq_exec _ s hstage).symm.trans (outputStage_eq_setFilter s)

end Sys2Proof.Machine
end

section
/-! SUPPORT. Runs of ticks: the filter over a list of samples as a function of its own registers (R124), and the machine's run of
that many steps against it. -/

namespace Sys2Proof.Machine

/-- What the ticks on the samples `raws` do to the filter registers, oldest first. -/
def filterRun (c : Config) (f : FilterRegs) (raws : List RawSample) : FilterRegs := raws.foldl (filterTick c) f

@[simp] theorem filterRun_nil (c : Config) (f : FilterRegs) : filterRun c f [] = f := rfl

theorem filterRun_cons (c : Config) (f : FilterRegs) (raw : RawSample) (raws : List RawSample) :
    filterRun c f (raw :: raws) = filterRun c (filterTick c f raw) raws := rfl

theorem filterRun_append (c : Config) (f : FilterRegs) (old new : List RawSample) :
    filterRun c f (old ++ new) = filterRun c (filterRun c f old) new := List.foldl_append

theorem filterRun_concat (c : Config) (f : FilterRegs) (raws : List RawSample) (last : RawSample) :
    filterRun c f (raws ++ [last]) = filterTick c (filterRun c f raws) last := filterRun_append c f raws [last]

/-! ### The machine's run -/

/-- From the invariant a step that takes the word of `TICK raw` is the tick on `raw` (R22, R87). -/
theorem State.Inv.step_of_tickWord {s : State} (hs : s.Inv) {raw : RawSample} {ws : List StimWord}
    (hin : s.input = tickWord raw :: ws) : step s = .next ((s.withInput ws).ticked raw) :=
  (step_of_decodeStim hs.legal hs.slot hin (decodeStim_tickWord raw)).trans ((hs.withInput ws).execOpTick_eq raw)

/-- From the invariant every run over pending `TICK` words completes, and runs the filter over their samples. -/
theorem State.Inv.runSteps_tickWords {s : State} (hs : s.Inv) {raws : List RawSample} {ws : List StimWord}
    (hin : s.input = raws.map tickWord ++ ws) :
    ∃ t, runSteps raws.length s = .next t ∧ t.Inv ∧ t.cfg = s.cfg ∧ t.input = ws ∧
      t.filter = filterRun s.cfg s.filter raws := by
  induction raws generalizing s with
  | nil => exact ⟨s, rfl, hs, rfl, hin, rfl⟩
  | cons raw raws ih =>
    have hstep := hs.step_of_tickWord (ws := raws.map tickWord ++ ws) hin
    have hset := (hs.withInput (raws.map tickWord ++ ws)).ticked_keepsSetting raw
    obtain ⟨t, hrun, ht, hcfg, hinput, hfilter⟩ := ih (hs.of_step hstep) hset.input
    refine ⟨t, ?_, ht, hcfg.trans hset.cfg, hinput, ?_⟩
    · rw [List.length_cons, runSteps, hstep, andThen_next, hrun]
    · rw [hfilter, hset.cfg, State.ticked_filter]
      rfl

/-- The state of such a run after any number of its ticks. -/
theorem State.Inv.runSteps_take {s : State} (hs : s.Inv) {raws : List RawSample} (hin : s.input = raws.map tickWord)
    {j : Nat} (hj : j ≤ raws.length) :
    ∃ t, runSteps j s = .next t ∧ t.filter = filterRun s.cfg s.filter (raws.take j) := by
  have hsplit : s.input = (raws.take j).map tickWord ++ (raws.drop j).map tickWord := by
    rw [hin, ← List.map_append, List.take_append_drop]
  obtain ⟨t, hrun, -, -, -, hfilter⟩ := hs.runSteps_tickWords hsplit
  rw [List.length_take_of_le hj] at hrun
  exact ⟨t, hrun, hfilter⟩

end Sys2Proof.Machine
end

section
/-! SUPPORT. Debouncing on the filter's own registers (R126 to R128): a tick by its cases, runs of differing ticks below and up to
the stability window, and the ticks that the run counter counts. -/

namespace Sys2Proof.Machine

/-! ### One tick -/

@[simp] theorem filterTick_stable (c : Config) (f : FilterRegs) (raw : RawSample) :
    (filterTick c f raw).stable = (filterStep c f (classify c raw).code).stable := filterOutput_stable c _

@[simp] theorem filterTick_dcount (c : Config) (f : FilterRegs) (raw : RawSample) :
    (filterTick c f raw).dcount = (filterStep c f (classify c raw).code).dcount := filterOutput_dcount c _

theorem filterTick_of_match {c : Config} {f : FilterRegs} {raw : RawSample} (h : (classify c raw).code = f.stable) :
    (filterTick c f raw).stable = f.stable ∧ (filterTick c f raw).dcount = 0 := by
  simp [filterStep_of_match h]

theorem filterTick_of_count {c : Config} {f : FilterRegs} {raw : RawSample} (hn : c.n ≤ 65535)
    (hne : (classify c raw).code ≠ f.stable) (hlt : f.dcount.toNat + 1 < c.n) :
    (filterTick c f raw).stable = f.stable ∧ (filterTick c f raw).dcount.toNat = f.dcount.toNat + 1 := by
  rw [filterTick_stable, filterTick_dcount, filterStep_of_count hne hlt]
  exact ⟨rfl, toNat_dcount_succ hlt hn⟩

theorem filterTick_of_commit {c : Config} {f : FilterRegs} {raw : RawSample} (hne : (classify c raw).code ≠ f.stable)
    (hfull : ¬ f.dcount.toNat + 1 < c.n) :
    (filterTick c f raw).stable = (classify c raw).code ∧ (filterTick c f raw).dcount = 0 := by
  simp [filterStep_of_commit hne hfull]

/-! ### Runs of differing ticks -/

/-- Differing ticks that do not fill the window are counted, and `stable` holds. -/
theorem filterRun_of_short {c : Config} {f : FilterRegs} {raws : List RawSample} (hn : c.n ≤ 65535)
    (hdiff : ∀ r ∈ raws, (classify c r).code ≠ f.stable) (hshort : f.dcount.toNat + raws.length < c.n) :
    (filterRun c f raws).stable = f.stable ∧ (filterRun c f raws).dcount.toNat = f.dcount.toNat + raws.length := by
  induction raws generalizing f with
  | nil => exact ⟨rfl, rfl⟩
  | cons raw raws ih =>
    obtain ⟨hraw, hraws⟩ := List.forall_mem_cons.mp hdiff
    rw [List.length_cons] at hshort ⊢
    obtain ⟨hstable, hdcount⟩ := filterTick_of_count hn hraw (by omega)
    obtain ⟨hstable', hdcount'⟩ := ih (f := filterTick c f raw) (by rwa [hstable]) (by omega)
    rw [filterRun_cons]
    exact ⟨hstable'.trans hstable, by omega⟩

/-- A uniform run that fills the window has committed its symbol, and the ticks after the commit match it (R127). -/
theorem filterRun_of_full {c : Config} {f : FilterRegs} {y : Symbol} {raws : List RawSample} (hn : c.n ≤ 65535)
    (hsym : ∀ r ∈ raws, classify c r = y) (hne : y.code ≠ f.stable) (hlt : f.dcount.toNat < c.n)
    (hfull : c.n ≤ f.dcount.toNat + raws.length) :
    (filterRun c f raws).stable = y.code ∧ (filterRun c f raws).dcount = 0 := by
  induction raws using List.reverseRecOn with
  | nil => exact absurd hfull (by simpa using hlt)
  | append_singleton raws last ih =>
    have hsym' : ∀ r ∈ raws, classify c r = y := fun r hr => hsym r (List.mem_append_left _ hr)
    have hlast : classify c last = y := hsym last (by simp)
    rw [List.length_append, List.length_singleton] at hfull
    rw [filterRun_concat]
    by_cases hshort : f.dcount.toNat + raws.length < c.n
    · obtain ⟨hstable, hdcount⟩ := filterRun_of_short hn (fun r hr => by rwa [hsym' r hr]) hshort
      have htick := filterTick_of_commit (c := c) (f := filterRun c f raws) (raw := last)
        (by rwa [hlast, hstable]) (by omega)
      rwa [hlast] at htick
    · obtain ⟨hstable, -⟩ := ih hsym' (by omega)
      have htick := filterTick_of_match (c := c) (f := filterRun c f raws) (raw := last) (by rw [hlast, hstable])
      rwa [hstable] at htick

/-- The ticks that `dcount` counts: a run from `dcount = 0` is a run that ends with `dcount = 0`, and after it fewer differing
ticks than the window. -/
theorem filterRun_counted_suffix {c : Config} {f : FilterRegs} (hn : 1 ≤ c.n ∧ c.n ≤ 65535) (hf : f.dcount = 0)
    (raws : List RawSample) :
    ∃ old new, raws = old ++ new ∧ (filterRun c f old).dcount = 0 ∧
      (∀ r ∈ new, (classify c r).code ≠ (filterRun c f old).stable) ∧ new.length < c.n := by
  induction raws using List.reverseRecOn with
  | nil => exact ⟨[], [], rfl, hf, by simp, hn.1⟩
  | append_singleton raws last ih =>
    obtain ⟨old, new, rfl, hzero, hdiff, hlen⟩ := ih
    obtain ⟨hstable, hdcount⟩ := filterRun_of_short hn.2 hdiff (by simpa [hzero] using hlen)
    rw [← filterRun_append] at hstable hdcount
    by_cases hlast : (classify c last).code = (filterRun c f old).stable
    · refine ⟨old ++ new ++ [last], [], by simp, ?_, by simp, hn.1⟩
      rw [filterRun_concat]
      exact (filterTick_of_match (hlast.trans hstable.symm)).2
    · by_cases hshort : new.length + 1 < c.n
      · refine ⟨old, new ++ [last], by simp, hzero, ?_, by simpa using hshort⟩
        exact List.forall_mem_append.mpr ⟨hdiff, by simpa using hlast⟩
      · refine ⟨old ++ new ++ [last], [], by simp, ?_, by simp, hn.1⟩
        rw [filterRun_concat]
        exact (filterTick_of_commit (by rwa [hstable]) (by simpa [hdcount, hzero] using hshort)).2

/-- R126 on the filter's registers: where the last tick of a run from `dcount = 0` changes `stable`, the run ends with `N - 1`
ticks that differed from it, the last tick commits its own symbol, and `stable` held since the first of them. -/
theorem filterRun_of_change {c : Config} {f : FilterRegs} (hn : 1 ≤ c.n ∧ c.n ≤ 65535) (hf : f.dcount = 0)
    {raws : List RawSample} {last : RawSample}
    (hchange : (filterRun c f (raws ++ [last])).stable ≠ (filterRun c f raws).stable) :
    (filterRun c f (raws ++ [last])).stable = (classify c last).code ∧
      ∃ old new, raws = old ++ new ∧ new.length + 1 = c.n ∧
        (∀ r ∈ new ++ [last], (classify c r).code ≠ (filterRun c f raws).stable) ∧
        ∀ i, (filterRun c f (old ++ new.take i)).stable = (filterRun c f raws).stable := by
  obtain ⟨old, new, rfl, hzero, hdiff, hlen⟩ := filterRun_counted_suffix hn hf raws
  have hcounted : ∀ i, (filterRun c f (old ++ new.take i)).stable = (filterRun c f old).stable ∧
      (filterRun c f (old ++ new.take i)).dcount.toNat = (new.take i).length := by
    intro i
    have hi : (new.take i).length < c.n := (List.length_take_le' i new).trans_lt hlen
    rw [filterRun_append]
    have hshort := filterRun_of_short (f := filterRun c f old) hn.2 (fun r hr => hdiff r (List.mem_of_mem_take hr))
      (by simpa [hzero] using hi)
    simpa [hzero] using hshort
  obtain ⟨hstable, hdcount⟩ := hcounted new.length
  rw [List.take_length] at hstable hdcount
  rw [filterRun_concat] at hchange ⊢
  have hne : (classify c last).code ≠ (filterRun c f (old ++ new)).stable :=
    fun heq => hchange (filterTick_of_match heq).1
  have hfull : ¬ (filterRun c f (old ++ new)).dcount.toNat + 1 < c.n :=
    fun hlt => hchange (filterTick_of_count hn.2 hne hlt).1
  refine ⟨(filterTick_of_commit hne hfull).1, old, new, rfl, by omega, ?_, fun i => (hcounted i).1.trans hstable.symm⟩
  rw [hstable] at hne ⊢
  exact List.forall_mem_append.mpr ⟨hdiff, by simpa using hne⟩

/-! ### The number of ticks of a window -/

/-- `N` is at most a positive count exactly where the count's elapsed time reaches the window (R123). -/
theorem debounceTicks_le_iff {tick ms m : Nat} (htick : 0 < tick) (hm : 1 ≤ m) :
    debounceTicks tick ms ≤ m ↔ ms * 1000 ≤ m * tick := by
  rw [debounceTicks, max_le_iff, Nat.div_le_iff_le_mul_add_pred htick, mul_comm tick m]
  omega

end Sys2Proof.Machine
end

section
/-! The statements of spec 42_debounce.md. -/

namespace Sys2Proof.Machine

/-- Settles O27: below the window the ticks are counted, and from the tick that fills it on the symbol is committed. -/
theorem uniformInputCommitsOnTime : Obligations.UniformInputCommitsOnTime := by
  intro s y raws hs hin hsym hne j hj
  obtain ⟨-, ⟨hpos, hn⟩, -, -⟩ := s.cfg.legal_iff.mp hs.legal
  have hlt : s.filter.dcount.toNat < s.cfg.n := hs.dcount_lt.trans_lt (Nat.sub_one_lt_of_lt hpos)
  obtain ⟨t, hrun, hfilter⟩ := hs.runSteps_take hin hj
  have hsym' : ∀ r ∈ raws.take j, classify s.cfg r = y := fun r hr => hsym r (List.mem_of_mem_take hr)
  have hlen : (raws.take j).length = j := List.length_take_of_le hj
  have hstable : t.stable = (filterRun s.cfg s.filter (raws.take j)).stable := congrArg FilterRegs.stable hfilter
  have hdcount : t.dcount = (filterRun s.cfg s.filter (raws.take j)).dcount := congrArg FilterRegs.dcount hfilter
  refine ⟨t, hrun, ?_⟩
  rw [hstable, hdcount]
  split
  next hshort =>
    have hcount : s.filter.dcount.toNat + (raws.take j).length < s.cfg.n := by
      rw [hlen]
      exact Nat.add_lt_of_lt_sub' hshort
    have h := filterRun_of_short hn (fun r hr => by rwa [hsym' r hr]) hcount
    rwa [hlen] at h
  next hfull =>
    refine filterRun_of_full hn hsym' hne hlt ?_
    rw [hlen]
    exact Nat.sub_le_iff_le_add'.mp (Nat.le_of_not_lt hfull)

/-- Settles O29: the change is a commit, and the ticks that the run counter had counted by then are the window's. -/
theorem stableChangesOnlyAfterFullWindow : Obligations.StableChangesOnlyAfterFullWindow := by
  intro s u t raws last hs hzero hin hu ht hchange
  obtain ⟨-, hn, -, -⟩ := s.cfg.legal_iff.mp hs.legal
  have hstable : ∀ j ≤ raws.length + 1, ∃ v, runSteps j s = .next v ∧
      v.stable = (filterRun s.cfg s.filter ((raws ++ [last]).take j)).stable := by
    intro j hj
    obtain ⟨v, hv, hfilter⟩ := hs.runSteps_take hin (j := j) (by simpa using hj)
    exact ⟨v, hv, congrArg FilterRegs.stable hfilter⟩
  have hustable : u.stable = (filterRun s.cfg s.filter raws).stable := by
    obtain ⟨v, hv, h⟩ := hstable raws.length (Nat.le_succ _)
    rw [hu] at hv
    cases hv
    rwa [List.take_left] at h
  have htstable : t.stable = (filterRun s.cfg s.filter (raws ++ [last])).stable := by
    obtain ⟨v, hv, h⟩ := hstable (raws.length + 1) le_rfl
    rw [runSteps_succ, hu, andThen_next, ht] at hv
    cases hv
    rwa [List.take_of_length_le (by simp)] at h
  rw [htstable, hustable] at hchange ⊢
  obtain ⟨hlast, old, new, rfl, hwindow, hdiff, hheld⟩ := filterRun_of_change hn hzero hchange
  have hstart : (old ++ new).length + 1 - s.cfg.n = old.length := by
    rw [List.length_append]
    omega
  rw [hstart]
  refine ⟨?_, hlast, ?_, fun j hj hj' => ?_⟩
  · rw [List.length_append]
    omega
  · rwa [List.append_assoc, List.drop_left]
  · obtain ⟨i, rfl⟩ := Nat.exists_eq_add_of_le hj
    obtain ⟨v, hv, h⟩ := hstable (old.length + i) (Nat.le_succ_of_le hj')
    rw [List.take_append_of_le_length hj', List.take_length_add_append] at h
    exact ⟨v, hv, h.trans (hheld i)⟩

/-- Settles O23: the selected operation is the filter step, in each of its cases. -/
theorem filterStepSelectsAndRuns : Obligations.FilterStepSelectsAndRuns := by
  intro s hc
  obtain ⟨-, ⟨-, hn⟩, -, -⟩ := s.cfg.legal_iff.mp hc
  have hsel := decodeDsel_dselWord s
  have hrun := exec_decodeDsel_dselWord s
  split_ifs at hsel ⊢ with hmatch hlt
  · rw [hsel, filterStep_of_match hmatch] at hrun
    exact ⟨hsel, hrun⟩
  · rw [hsel, filterStep_of_count hmatch hlt] at hrun
    exact ⟨hsel, hrun, toNat_dcount_succ hlt hn⟩
  · rw [hsel, filterStep_of_commit hmatch hlt] at hrun
    exact ⟨hsel, hrun⟩

/-- Settles O24: the selected operation is the output stage, in each of its cases. -/
theorem outputStageSelectsAndRuns : Obligations.OutputStageSelectsAndRuns := by
  intro s
  have hsel := decodeOsel_oselWord s
  have hrun := exec_decodeOsel_oselWord s
  split_ifs at hsel ⊢ with hos hrst harmed
  · rw [hsel, filterOutput_of_continuous _ hos] at hrun
    exact ⟨hsel, hrun⟩
  · rw [hsel, filterOutput_of_rearm hos hrst] at hrun
    exact ⟨hsel, hrun⟩
  · rw [hsel, filterOutput_of_shot hos hrst harmed] at hrun
    exact ⟨hsel, hrun⟩
  · rw [hsel, filterOutput_of_suppressed hos hrst harmed] at hrun
    exact ⟨hsel, hrun⟩

/-- Settles O25: no stage but the filter step and the output stage writes the filter's registers. -/
theorem filterRunsAtEveryTick : Obligations.FilterRunsAtEveryTick := by
  intro raw s t h
  obtain ⟨-, rfl⟩ := eq_ticked_of_execOpTick h
  exact s.ticked_filter raw

/-- Settles O28: the differing ticks are counted below the window, and the matching tick starts the count again. -/
theorem shortGlitchLeavesStable : Obligations.ShortGlitchLeavesStable := by
  intro s raws back hs hin hdiff hshort hback
  obtain ⟨-, ⟨-, hn⟩, -, -⟩ := s.cfg.legal_iff.mp hs.legal
  have hcount : ∀ j, (filterRun s.cfg s.filter (raws.take j)).stable = s.stable := fun j =>
    (filterRun_of_short hn (fun r hr => hdiff r (List.mem_of_mem_take hr))
      ((Nat.add_le_add_left (List.length_take_le' j raws) _).trans_lt hshort)).1
  have hraws : (filterRun s.cfg s.filter raws).stable = s.stable := by
    simpa using hcount raws.length
  obtain ⟨hstable, hdcount⟩ := filterTick_of_match (hback.trans hraws.symm)
  rw [← filterRun_concat] at hstable hdcount
  obtain ⟨t, ht, htfilter⟩ := hs.runSteps_take hin (j := raws.length + 1) (by simp)
  rw [List.take_of_length_le (by simp)] at htfilter
  refine ⟨fun j hj => ?_, t, ht, (congrArg FilterRegs.dcount htfilter).trans hdcount⟩
  obtain rfl | hlt := hj.eq_or_lt
  · exact ⟨t, ht, (congrArg FilterRegs.stable htfilter).trans (hstable.trans hraws)⟩
  · have hj' : j ≤ raws.length := Nat.le_of_lt_succ hlt
    obtain ⟨v, hv, hvfilter⟩ := hs.runSteps_take hin (j := j) (by simpa using hj)
    rw [List.take_append_of_le_length hj'] at hvfilter
    exact ⟨v, hv, (congrArg FilterRegs.stable hvfilter).trans (hcount j)⟩

/-- Settles O26: a positive count is at least `N` exactly where it reaches the window, and `N` is such a count. -/
theorem debounceTicksIsLeastCount : Obligations.DebounceTicksIsLeastCount := by
  intro tick ms htick
  have hpos : 1 ≤ debounceTicks tick ms := le_max_left 1 _
  exact ⟨hpos, (debounceTicks_le_iff htick hpos).mp le_rfl, fun _ hm => (debounceTicks_le_iff htick hm).mpr⟩

end Sys2Proof.Machine
end

section
/-! SUPPORT. The scheduler by its cases (R152 to R157): the operation that each case selects and what it leaves, and the ticks
between two evaluations, whose main-loop registers are a function of themselves and the configuration (R151, R188, R235). -/

namespace Sys2Proof.Machine

/-! ### Selected operations -/

/-- An operation belongs to the format of every word that selects it (R82). -/
theorem fmt_of_decode {w : OpWord} {i : Instr} (h : decode w = some i) : i.row.fmt = w.fmt := by
  have hsel : i.row.selects w = true := (row_selects_iff w i).mpr ⟨i, h, rfl⟩
  rw [Row.selects, Bool.and_eq_true] at hsel
  exact (of_decide_eq_true hsel.1).symm

/-- An operation that a selector word selects runs in its stage as it runs on its own. -/
theorem stageOp_of_decode {w : OpWord} {i : Instr} (h : decode w = some i) (hw : w.fmt ≠ .stim) (s : State) :
    stageOp i s = exec i s :=
  stageOp_eq_exec i s (fmt_of_decode h ▸ hw)

/-! ### Cases of the scheduler stage -/

theorem State.scheduled_of_ready {s : State} (hm : s.mode = modeReady) : s.scheduled = s.setEval true := if_pos hm

theorem State.scheduled_of_tx_adv {s : State} (hm : s.mode = modeTx) (hadv : s.txPos.toNat + 1 < txLen s.cfg.addr s.txCmd) :
    s.scheduled = (s.setTxPos (s.txPos.toNat + 1)).setEval false := by
  simp [State.scheduled, hm, hadv]

theorem State.scheduled_of_tx_last_wait {s : State} (hm : s.mode = modeTx)
    (hlast : s.txPos.toNat + 1 = txLen s.cfg.addr s.txCmd) (hpost : 0 < post s.cfg s.txVol) :
    s.scheduled = ((s.setMode modeWait).setWaitLeft (post s.cfg s.txVol - 1)).setEval false := by
  simp [State.scheduled, hm, hlast, hpost.ne']

theorem State.scheduled_of_tx_last_eval {s : State} (hm : s.mode = modeTx)
    (hlast : s.txPos.toNat + 1 = txLen s.cfg.addr s.txCmd) (hpost : post s.cfg s.txVol = 0) :
    s.scheduled = (s.setMode modeReady).setEval true := by
  simp [State.scheduled, hm, hlast, hpost]

/-- Past the last waveform tick, which no reset state reaches, the scheduler has nothing to do (log entry 10). -/
theorem State.scheduled_of_tx_past {s : State} (hm : s.mode = modeTx) (hpast : txLen s.cfg.addr s.txCmd < s.txPos.toNat + 1) :
    s.scheduled = s := by
  simp [State.scheduled, hm, hpast.not_gt, hpast.ne']

theorem State.scheduled_of_wait_dec {s : State} (hm : s.mode = modeWait) (hleft : s.waitLeft ≠ 0#16) :
    s.scheduled = (s.setWaitLeft (s.waitLeft.toNat - 1)).setEval false := by
  simp [State.scheduled, hm, hleft]

theorem State.scheduled_of_wait_done {s : State} (hm : s.mode = modeWait) (hleft : s.waitLeft = 0) :
    s.scheduled = (s.setMode modeReady).setEval true := by
  simp [State.scheduled, hm, hleft]

@[simp] theorem State.scheduled_txCmd (s : State) : s.scheduled.txCmd = s.txCmd := by rw [s.scheduled_frame]
@[simp] theorem State.scheduled_txVol (s : State) : s.scheduled.txVol = s.txVol := by rw [s.scheduled_frame]

/-- The next waveform position is a register value (R35). -/
theorem toNat_txPos_succ {p : BitVec 9} {addr c : CmdCode} (h : p.toNat + 1 < txLen addr c) : (p + 1).toNat = p.toNat + 1 :=
  BitVec.toNat_add_of_lt (show p.toNat + 1 < 512 from h.trans_le ((txLen_le addr c).trans (by decide)))

theorem toNat_waitLeft_pred {w : BitVec 16} (h : 0 < w.toNat) : (w - 1).toNat = w.toNat - 1 :=
  BitVec.toNat_sub_of_le (BitVec.le_def.mpr h)

theorem State.setTxPos_succ (s : State) : s.setTxPos (s.txPos.toNat + 1) = { s with txPos := s.txPos + 1 } := by
  rw [State.setTxPos, BitVec.ofNat_add, BitVec.ofNat_toNat, BitVec.setWidth_eq]
  rfl

theorem State.setWaitLeft_pred {s : State} (h : 0 < s.waitLeft.toNat) :
    s.setWaitLeft (s.waitLeft.toNat - 1) = { s with waitLeft := s.waitLeft - 1 } := by
  rw [State.setWaitLeft, ← toNat_waitLeft_pred h, BitVec.ofNat_toNat, BitVec.setWidth_eq]

/-- The wait after a transmission fits `wait_left` under a legal configuration (R8, R158). -/
theorem post_le_of_legal {c : Config} (hc : c.legal = true) (v : Bool) : post c v ≤ 65535 := by
  obtain ⟨-, -, hwait, -⟩ := c.legal_iff.mp hc
  exact (post_le c v).trans hwait

/-! ### Evaluation ticks by mode -/

theorem State.evaluates_of_ready {s : State} (hm : s.mode = modeReady) : s.evaluates = true := by
  simp [State.evaluates, hm]

theorem State.evaluates_iff_of_tx {s : State} (hm : s.mode = modeTx) :
    s.evaluates = true ↔ s.txPos.toNat + 1 = txLen s.cfg.addr s.txCmd ∧ post s.cfg s.txVol = 0 := by
  simp [State.evaluates, hm]

theorem State.evaluates_iff_of_wait {s : State} (hm : s.mode = modeWait) : s.evaluates = true ↔ s.waitLeft = 0 := by
  simp [State.evaluates, hm]

/-! ### Selection -/

/-- The scheduler operation that R152 to R157 select. -/
theorem decodeSsel_sselWord (s : State) :
    decodeSsel (sselWord s) = if s.mode = modeReady then some .schEval
      else if s.mode = modeTx then
        some (if s.txPos.toNat + 1 ≠ txLen s.cfg.addr s.txCmd then .schTxAdv
          else if post s.cfg s.txVol = 0 then .schTxDoneEval else .schTxDoneWait)
      else if s.mode = modeWait then some (if s.waitLeft = 0 then .schWaitDone else .schWaitDec)
      else none := by
  rw [sselWord, decodeSsel_bits]
  obtain hm | hm | hm | hm := mode_cases s.mode
  · simp [hm]
  · simp [State.lastBit, State.post0Bit, hm]
  · simp [State.lastBit, hm]
  · rw [hm]
    rfl

/-- The selected scheduler operation, run on its own, is the scheduler stage. -/
theorem exec_of_decodeSsel_sselWord {s : State} {i : Instr} (h : decodeSsel (sselWord s) = some i) :
    exec i s = schedStage s := by
  rw [← stageOp_of_decode (w := .ssel (sselWord s)) h nofun, schedStage, h]

/-- A selected scheduler operation completes, for mode 3 selects none, and its effect is the stage's. -/
theorem exec_eq_of_scheduled {s t : State} {i : Instr} (h : decodeSsel (sselWord s) = some i) (ht : s.scheduled = t) :
    exec i s = .next t := by
  have hmode : s.mode ≠ 3 := by
    intro h3
    rw [decodeSsel_sselWord, h3] at h
    cases h
  rw [exec_of_decodeSsel_sselWord h, schedStage_eq_scheduled hmode, ht]

/-! ### Ticks without an evaluation -/

/-- A tick without an evaluation is the scheduler, the filter and the pin; the dispatcher clears the strobe alone (R150, R151). -/
theorem State.ticked_of_not_evaluates {s : State} (hmode : s.mode ≠ 3) (h : s.evaluates = false) (raw : RawSample) :
    s.ticked raw = (drive (s.latch raw).scheduled.filtered.clearStrobe).clearLoc := by
  have heval := State.filtered_eval_of_latch hmode raw
  rw [h] at heval
  rw [State.ticked, State.dispatched, if_neg (Bool.eq_false_iff.mp heval)]

/-- The scheduler, and so the whole tick, stays busy where it does not evaluate. -/
theorem State.scheduled_mode_ne_ready {s : State} (hmode : s.mode ≠ 3) (h : s.evaluates = false) :
    s.scheduled.mode ≠ modeReady := by
  obtain hm | hm | hm | hm := mode_cases s.mode
  · rw [State.evaluates_of_ready hm] at h
    cases h
  · have hnot := mt (State.evaluates_iff_of_tx hm).mpr (by simp [h])
    obtain hadv | hlast | hpast := lt_trichotomy (s.txPos.toNat + 1) (txLen s.cfg.addr s.txCmd)
    · simp [State.scheduled_of_tx_adv hm hadv, hm]
    · have hpost : 0 < post s.cfg s.txVol := Nat.pos_of_ne_zero fun h0 => hnot ⟨hlast, h0⟩
      simp [State.scheduled_of_tx_last_wait hm hlast hpost]
    · simp [State.scheduled_of_tx_past hm hpast, hm]
  · have hleft := mt (State.evaluates_iff_of_wait hm).mpr (by simp [h])
    simp [State.scheduled_of_wait_dec hm hleft, hm]
  · exact absurd hm hmode

/-! ### The main-loop registers -/

/-- The state with every field outside the main loop blanked, the configuration kept (R235). -/
def State.mainLoop (s : State) : State :=
  { s with stable := 0, dcount := 0, armed := false, fout := 0, hasReset := false, loc := TickLocal.idle, input := [], slot := none }

theorem mainLoop_congr {s t : State} (hregs : s.mainRegs = t.mainRegs) (hcfg : s.cfg = t.cfg) : s.mainLoop = t.mainLoop := by
  obtain ⟨⟩ := s
  obtain ⟨⟩ := t
  cases hregs
  cases hcfg
  rfl

theorem State.mainLoop_mainRegs (s : State) : s.mainLoop.mainRegs = s.mainRegs := rfl

theorem State.mainLoop_mode (s : State) : s.mainLoop.mode = s.mode := rfl

theorem State.mainLoop_evaluates (s : State) : s.mainLoop.evaluates = s.evaluates := rfl

theorem State.mainLoop_drive (s : State) : (drive s.mainLoop).mainLoop = (drive s).mainLoop := rfl

theorem State.mainLoop_scheduled (s : State) : s.mainLoop.scheduled.mainLoop = s.scheduled.mainLoop := by
  simp only [State.scheduled, apply_ite State.mainLoop]
  rfl

/-- The main loop after a tick without an evaluation is the scheduler's and the pin's work on the main loop before it: neither the
sample nor the filter has a part in it. -/
theorem State.mainLoop_ticked {s : State} (hmode : s.mode ≠ 3) (h : s.evaluates = false) (raw : RawSample) :
    (s.ticked raw).mainLoop = (drive s.mainLoop.scheduled.mainLoop.clearStrobe).mainLoop := by
  have hlatch : (s.latch raw).mainLoop = s.mainLoop := rfl
  rw [State.ticked_of_not_evaluates hmode h, ← hlatch, State.mainLoop_scheduled]
  exact (State.mainLoop_drive _).symm

theorem mainRegs_ticked_congr {s t : State} (hregs : s.mainRegs = t.mainRegs) (hcfg : s.cfg = t.cfg) (hmode : s.mode ≠ 3)
    (h : s.evaluates = false) (raw raw' : RawSample) : (s.ticked raw).mainRegs = (t.ticked raw').mainRegs := by
  have hmain := mainLoop_congr hregs hcfg
  have hmode_eq : s.mode = t.mode := by
    rw [← s.mainLoop_mode, hmain, t.mainLoop_mode]
  have hmode' : t.mode ≠ 3 := hmode_eq ▸ hmode
  have h' : t.evaluates = false := by
    rw [← t.mainLoop_evaluates, ← hmain, s.mainLoop_evaluates, h]
  rw [← State.mainLoop_mainRegs, State.mainLoop_ticked hmode h, hmain, ← State.mainLoop_ticked hmode' h' raw',
    State.mainLoop_mainRegs]

end Sys2Proof.Machine
end

section
/-! SUPPORT. The dispatcher's selection by symbol, edge and `HELD_SAME` (R171 to R183), and the stages of a tick as the operations
their words select (R150). -/

namespace Sys2Proof.Machine

/-! ### Selection by the dispatcher -/

/-- The dispatcher operation of a symbol, with and without an edge, under either value of `HELD_SAME` (R171 to R183). -/
def dispatchOp : Symbol → (edge heldSame : Bool) → Instr
  | .idle, _, _ => .dspIdle
  | .volUp, _, _ => .dspVolup
  | .volDown, _, _ => .dspVoldn
  | .source, edge, _ => if edge then .dspSourceEdge else .dspSourceHold
  | .seekFwd, edge, heldSame => if edge then .dspSeekfFirst else if heldSame then .dspSeekfHeldSame else .dspSeekfHeld
  | .seekBack, edge, heldSame => if edge then .dspSeekbFirst else if heldSame then .dspSeekbHeldSame else .dspSeekbHeld
  | .extra, edge, _ => if edge then .dspExtraEdge else .dspExtraHold

/-- Where the filter output is a symbol, its dispatcher operation is selected. -/
theorem decodePsel_pselWord {s : State} {y : Symbol} (hy : s.fout = y.code) :
    decodePsel (pselWord s) = some (dispatchOp y s.edge s.cfg.heldSame) := by
  rw [pselWord, decodePsel_bits, hy]
  cases y <;> rfl

theorem decodePsel_pselWord_of_edge {s : State} {y : Symbol} (hy : s.fout = y.code) (hedge : s.fout ≠ s.prev) :
    decodePsel (pselWord s) = some (dispatchOp y true s.cfg.heldSame) := by
  have h : s.edge = true := decide_eq_true hedge
  rw [decodePsel_pselWord hy, h]

theorem decodePsel_pselWord_of_held {s : State} {y : Symbol} (hy : s.fout = y.code) (hheld : s.fout = s.prev) :
    decodePsel (pselWord s) = some (dispatchOp y false s.cfg.heldSame) := by
  have h : s.edge = false := decide_eq_false (not_not_intro hheld)
  rw [decodePsel_pselWord hy, h]

/-! ### The stages of a tick as selected operations -/

theorem pselWord_clearStrobe (s : State) : pselWord s.clearStrobe = pselWord s := rfl

/-- The dispatcher stage is the operation that the PSEL word selects, and the recording of `prev` (R150 stage 5, R161). -/
theorem dispatchStage_eq_exec (s : State) :
    dispatchStage s = if s.loc.eval = true then
        match decodePsel (pselWord s) with
        | none => .fault .reservedSymbol
        | some i => andThen (exec i s.clearStrobe) fun t => .next (t.setPrev s.fout)
      else .next s.clearStrobe := by
  rw [dispatchStage_eq, evaluate, pselWord_clearStrobe]
  cases hsel : decodePsel (pselWord s) with
  | none => rfl
  | some i => simp only [stageOp_of_decode (w := .psel (pselWord s)) hsel nofun, State.clearStrobe_fout]

/-- The scheduler stage appends no level. -/
theorem wave_of_schedStage {s t : State} (h : schedStage s = .next t) : t.loc.wave = s.loc.wave := by
  rw [schedStage_eq_scheduled (mode_ne_three_of_schedStage h)] at h
  cases h
  exact s.scheduled_wave

theorem loc_of_dispatchStage {s t : State} (h : dispatchStage s = .next t) : t.loc = s.loc := by
  rw [dispatchStage_eq_dispatched (fout_ne_seven_of_dispatchStage h)] at h
  cases h
  exact s.dispatched_loc

theorem andThen_congr {o : Result} {f g : State → Result} (h : ∀ t, o = .next t → f t = g t) : andThen o f = andThen o g := by
  cases o with
  | next t => exact h t rfl
  | fault | refused => rfl

/-- The last two stages of a tick: the dispatcher stage, then the level that R199 gives the pin. -/
theorem dispatch_pin_clearLoc {s : State} (hwave : s.loc.wave = []) :
    (andThen (dispatchStage s) fun t => andThen (pinStage t) fun u => .next u.clearLoc) =
      andThen (dispatchStage s) fun t => .next (drive t).clearLoc :=
  andThen_congr fun t ht => pinStage_clearLoc (by rw [loc_of_dispatchStage ht, hwave])

end Sys2Proof.Machine
end

section
/-! SUPPORT. One emission from the state right after it to the next evaluation (R159): the ticks of its transmission and its wait,
and, while the sample stays in one symbol's window, the emission that follows (R185, R186). -/

namespace Sys2Proof.Machine

/-! ### Runs of ticks, step by step -/

theorem runSteps_add (j k : Nat) (s : State) : runSteps (j + k) s = andThen (runSteps j s) (runSteps k) := by
  induction j generalizing s with
  | zero => rw [Nat.zero_add, runSteps, andThen_next]
  | succ j ih =>
    rw [Nat.add_right_comm, runSteps, runSteps, andThen_assoc]
    exact congrArg (andThen (step s)) (funext ih)

/-- A run over pending `TICK` words after `j` of them, and its next step. -/
theorem State.Inv.runSteps_step {s : State} (hs : s.Inv) {raws : List RawSample} (hin : s.input = raws.map tickWord) {j : Nat}
    (hj : j < raws.length) :
    ∃ t, runSteps j s = .next t ∧ t.Inv ∧ t.filter = filterRun s.cfg s.filter (raws.take j) ∧
      step t = .next ((t.withInput ((raws.drop (j + 1)).map tickWord)).ticked raws[j]) := by
  have hsplit : s.input = (raws.take j).map tickWord ++ (raws.drop j).map tickWord := by
    rw [hin, ← List.map_append, List.take_append_drop]
  obtain ⟨t, hrun, ht, -, hinput, hfilter⟩ := hs.runSteps_tickWords hsplit
  rw [List.length_take_of_le hj.le] at hrun
  rw [List.drop_eq_getElem_cons hj] at hinput
  exact ⟨t, hrun, ht, hfilter, ht.step_of_tickWord hinput⟩

/-! ### The ticks of an emission -/

/-- `L + P`: the ticks from the emission whose transmission `s` starts to the next evaluation (R159). -/
def State.emissionTicks (s : State) : Nat := txLen s.cfg.addr s.txCmd + post s.cfg s.txVol

theorem State.emissionTicks_pos (s : State) : 0 < s.emissionTicks :=
  Nat.add_pos_left (txLen_pos s.cfg.addr s.txCmd) _

/-- The registers of `t` are the scheduler's `j` ticks after the emission whose transmission `s` starts, with no evaluation since:
at waveform tick `j`, or in the wait that follows the transmission (R153, R155, R156). -/
structure State.PhaseAt (s : State) (j : Nat) (t : State) : Prop where
  cfg : t.cfg = s.cfg
  txCmd : t.txCmd = s.txCmd
  txVol : t.txVol = s.txVol
  phase : (j < txLen s.cfg.addr s.txCmd ∧ t.mode = modeTx ∧ t.txPos.toNat = j ∧ t.waitLeft = s.waitLeft) ∨
    (txLen s.cfg.addr s.txCmd ≤ j ∧ t.mode = modeWait ∧ t.waitLeft.toNat + 1 + j = s.emissionTicks)

namespace State.PhaseAt

/-- The next evaluation is at tick `L + P` and no sooner (R159). -/
theorem evaluates_iff {s t : State} {j : Nat} (h : s.PhaseAt j t) : t.evaluates = true ↔ j + 1 = s.emissionTicks := by
  obtain ⟨hj, hm, hpos, -⟩ | ⟨hj, hm, hleft⟩ := h.phase
  · rw [State.evaluates_iff_of_tx hm, hpos, h.cfg, h.txCmd, h.txVol, State.emissionTicks]
    omega
  · rw [State.evaluates_iff_of_wait hm, ← BitVec.toNat_inj, show (0 : BitVec 16).toNat = 0 from rfl]
    omega

/-- The scheduler stage goes on to the next tick of the transmission, to the wait, or to the next tick of the wait. -/
theorem scheduled {s t : State} {j : Nat} (hc : s.cfg.legal = true) (h : s.PhaseAt j t) (hj : j + 1 < s.emissionTicks) :
    s.PhaseAt (j + 1) t.scheduled := by
  refine ⟨t.scheduled_cfg.trans h.cfg, t.scheduled_txCmd.trans h.txCmd, t.scheduled_txVol.trans h.txVol, ?_⟩
  have hlen : txLen t.cfg.addr t.txCmd = txLen s.cfg.addr s.txCmd := by rw [h.cfg, h.txCmd]
  have hpost : post t.cfg t.txVol = post s.cfg s.txVol := by rw [h.cfg, h.txVol]
  have hlen_le := txLen_le s.cfg.addr s.txCmd
  have hpost_le := post_le_of_legal hc s.txVol
  rw [State.emissionTicks] at hj ⊢
  obtain ⟨hlt, hm, hpos, hleft⟩ | ⟨hle, hm, hleft⟩ := h.phase
  · obtain hadv | hlast : j + 1 < txLen s.cfg.addr s.txCmd ∨ j + 1 = txLen s.cfg.addr s.txCmd := by omega
    · rw [State.scheduled_of_tx_adv hm (by rwa [hlen, hpos]), hpos]
      exact .inl ⟨hadv, hm, State.toNat_setTxPos t (by omega), hleft⟩
    · rw [State.scheduled_of_tx_last_wait hm (by rwa [hlen, hpos]) (by omega), hpost]
      refine .inr ⟨hlast.ge, rfl, ?_⟩
      rw [State.setEval_waitLeft, State.toNat_setWaitLeft _ (by omega)]
      omega
  · rw [State.emissionTicks] at hleft
    have hpositive : 0 < t.waitLeft.toNat := by omega
    have hne : t.waitLeft ≠ 0#16 := fun h0 => hpositive.ne' (congrArg BitVec.toNat h0)
    rw [State.scheduled_of_wait_dec hm hne]
    refine .inr ⟨Nat.le_succ_of_le hle, hm, ?_⟩
    rw [State.setEval_waitLeft, State.toNat_setWaitLeft _ (by omega)]
    omega

/-- At the evaluation the wait has run down to 0; without a wait `wait_left` was not written (R154, R157). -/
theorem waitLeft_of_last {s t : State} {j : Nat} (h : s.PhaseAt j t) (hj : j + 1 = s.emissionTicks)
    (hwait : s.waitLeft = 0 ∨ post s.cfg s.txVol = 0) : t.waitLeft = s.waitLeft := by
  obtain ⟨-, -, -, hleft⟩ | ⟨hle, -, hleft⟩ := h.phase
  · exact hleft
  · rw [State.emissionTicks] at hj hleft
    have hzero : s.waitLeft = 0 := hwait.resolve_right (by omega)
    rw [hzero]
    exact BitVec.eq_of_toNat_eq (show t.waitLeft.toNat = 0 by omega)

end State.PhaseAt

/-- `t` is `j` ticks after the emission whose transmission `s` starts, with no evaluation and so no emission since. -/
structure State.FlightAt (s : State) (j : Nat) (t : State) : Prop extends s.PhaseAt j t where
  inv : t.Inv
  prev : t.prev = s.prev
  quiet : 0 < j → t.cmdStrobe = false

namespace State.FlightAt

theorem start {s : State} (hs : s.Inv) (hm : s.mode = modeTx) (hpos : s.txPos = 0) : s.FlightAt 0 s where
  cfg := rfl
  txCmd := rfl
  txVol := rfl
  phase := .inl ⟨txLen_pos _ _, hm, congrArg BitVec.toNat hpos, rfl⟩
  inv := hs
  prev := rfl
  quiet := nofun

theorem withInput {s t : State} {j : Nat} (h : s.FlightAt j t) (ws : List StimWord) : s.FlightAt j (t.withInput ws) where
  __ := h
  inv := h.inv.withInput ws

/-- A tick before the next evaluation. -/
theorem tick {s t : State} {j : Nat} (h : s.FlightAt j t) (hj : j + 1 < s.emissionTicks) (raw : RawSample) :
    s.FlightAt (j + 1) (t.ticked raw) := by
  have heval : t.evaluates = false := by
    rw [Bool.eq_false_iff, Ne, h.evaluates_iff]
    exact hj.ne
  have hlatch : s.PhaseAt j (t.latch raw) := ⟨h.cfg, h.txCmd, h.txVol, h.phase⟩
  have hsched := hlatch.scheduled (h.cfg ▸ h.inv.legal) hj
  have hprev : (t.latch raw).scheduled.prev = s.prev := (State.scheduled_prev _).trans h.prev
  have hinv := h.inv.ticked raw
  rw [State.ticked_of_not_evaluates (mode_ne_three h.inv.mode_le) heval] at hinv ⊢
  exact ⟨⟨hsched.cfg, hsched.txCmd, hsched.txVol, hsched.phase⟩, hinv, hprev, fun _ => rfl⟩

/-- The ticks of a run before the next evaluation. -/
theorem of_runSteps {s t : State} {raws : List RawSample} (hs : s.FlightAt 0 s) (hin : s.input = raws.map tickWord) {j : Nat}
    (hj : j ≤ raws.length) (hlt : j < s.emissionTicks) (h : runSteps j s = .next t) : s.FlightAt j t := by
  induction j generalizing t with
  | zero =>
    cases h
    exact hs
  | succ j ih =>
    obtain ⟨u, hu, -, -, hstep⟩ := hs.inv.runSteps_step hin hj
    rw [runSteps_succ, hu, andThen_next, hstep] at h
    cases h
    exact ((ih (Nat.le_of_succ_le hj) (Nat.lt_of_succ_lt hlt) hu).withInput _).tick hlt _

/-- Every tick before the next evaluation is reached. -/
theorem run {s : State} {raws : List RawSample} (hs : s.FlightAt 0 s) (hin : s.input = raws.map tickWord) {j : Nat}
    (hj : j ≤ raws.length) (hlt : j < s.emissionTicks) : ∃ t, runSteps j s = .next t ∧ s.FlightAt j t := by
  obtain ⟨t, hrun, -⟩ := hs.inv.runSteps_take hin hj
  exact ⟨t, hrun, hs.of_runSteps hin hj hlt hrun⟩

end State.FlightAt

/-! ### The state after a command -/

theorem mainRegs_drive_of_first {s : State} (hm : s.mode = modeTx) (hpos : s.txPos = 0) :
    (drive s).mainRegs = { s.mainRegs with pin := true } := by
  rw [← drive_pin_of_first hm hpos]
  rfl

/-- The main-loop registers after an evaluation tick that sends a command (R73, R161, R170, R199). -/
theorem State.ticked_mainRegs_of_command {s : State} {raw : RawSample} {c : CmdCode} {v : Bool} (hmode : s.mode ≠ 3)
    (heval : s.evaluates = true) (hcmd : commandFor s.cfg s.prev (filterTick s.cfg s.filter raw).fout = some (c, v)) :
    (s.ticked raw).mainRegs = ⟨(filterTick s.cfg s.filter raw).fout, modeTx, c, 0, v, s.waitLeft, true, true, c⟩ := by
  rw [State.ticked_of_evaluates hmode heval, State.evaluated_of_command hcmd]
  exact mainRegs_drive_of_first rfl rfl

/-- The main loop, the filter and the fields that no tick writes are the whole state between two ticks. -/
theorem State.Inv.eq_of_regs {s t : State} (hs : s.Inv) (ht : t.Inv) (hmain : s.mainRegs = t.mainRegs)
    (hfilter : s.filter = t.filter) (hcfg : s.cfg = t.cfg) (hinput : s.input = t.input) : s = t := by
  have hreset : s.hasReset = t.hasReset := hs.hasReset.trans ht.hasReset.symm
  have hslot : s.slot = t.slot := hs.slot.trans ht.slot.symm
  have hloc : s.loc = t.loc := hs.loc.trans ht.loc.symm
  obtain ⟨⟩ := s
  obtain ⟨⟩ := t
  cases hmain
  cases hfilter
  cases hcfg
  cases hinput
  cases hreset
  cases hslot
  cases hloc
  rfl

/-! ### A symbol that stays -/

/-- A sample of the symbol that the filter is at rest on leaves the filter as it is (R120, R140). -/
theorem filterTick_of_held {c : Config} {f : FilterRegs} {raw : RawSample} (ho : c.oneshot = false) (hzero : f.dcount = 0)
    (hout : f.fout = f.stable) (hsym : (classify c raw).code = f.stable) : filterTick c f raw = f := by
  obtain ⟨stable, dcount, armed, fout⟩ := f
  cases hzero
  cases hout
  rw [filterTick, filterStep_of_match hsym, filterOutput_of_continuous _ ho]
  rfl

/-- `s` is right after an emission, with the filter at rest on the symbol `y` that the evaluation read. -/
structure State.SentHeld (s : State) (y : Symbol) : Prop where
  inv : s.Inv
  oneshot : s.cfg.oneshot = false
  mode : s.mode = modeTx
  txPos : s.txPos = 0
  dcount : s.dcount = 0
  stable : s.stable = y.code
  prev : s.prev = y.code

namespace State.SentHeld

theorem withInput {s : State} {y : Symbol} (h : s.SentHeld y) (ws : List StimWord) : (s.withInput ws).SentHeld y where
  __ := h
  inv := h.inv.withInput ws

theorem pin {s : State} {y : Symbol} (h : s.SentHeld y) : s.pin = true := by
  have hpin := h.inv.pin_tx h.mode
  rw [h.txPos] at hpin
  exact (Option.some.inj hpin).symm

/-- The next emission is the one that the dispatcher has for the held symbol. It changes the command registers alone. -/
theorem emit {s : State} {y : Symbol} (h : s.SentHeld y) (c : CmdCode) (v : Bool) : (s.emit c v).SentHeld y where
  __ := h
  mode := rfl
  txPos := rfl
  inv := { h.inv with
    mode_le := by simp
    txPos_lt := fun _ => txLen_pos s.cfg.addr c
    waitLeft_le := by simp
    pin_idle := by simp
    pin_tx := fun _ => (txWave_zero _ _).trans (congrArg some h.pin.symm) }

theorem fout {s : State} {y : Symbol} (h : s.SentHeld y) : s.fout = y.code :=
  (h.inv.continuous h.oneshot).1.trans h.stable

theorem filterTick_eq {s : State} {y : Symbol} (h : s.SentHeld y) {raw : RawSample} (hraw : classify s.cfg raw = y) :
    filterTick s.cfg s.filter raw = s.filter :=
  filterTick_of_held h.oneshot h.dcount (h.inv.continuous h.oneshot).1 ((congrArg Symbol.code hraw).trans h.stable.symm)

theorem filterRun_eq {s : State} {y : Symbol} (h : s.SentHeld y) {raws : List RawSample}
    (hsym : ∀ r ∈ raws, classify s.cfg r = y) : filterRun s.cfg s.filter raws = s.filter := by
  induction raws with
  | nil => rfl
  | cons raw raws ih =>
    obtain ⟨hraw, hraws⟩ := List.forall_mem_cons.mp hsym
    rw [filterRun_cons, h.filterTick_eq hraw, ih hraws]

/-- While the symbol stays, the evaluation at tick `L + P` sends the command that the dispatcher has for it held, and the state
is again the one right after an emission. -/
theorem next_emission {s : State} {y : Symbol} {raws : List RawSample} {c : CmdCode} {v : Bool} (h : s.SentHeld y)
    (hwait : s.waitLeft = 0 ∨ post s.cfg s.txVol = 0) (hcmd : commandFor s.cfg y.code y.code = some (c, v))
    (hsym : ∀ r ∈ raws, classify s.cfg r = y) (hin : s.input = raws.map tickWord) (hlen : s.emissionTicks ≤ raws.length) :
    runSteps s.emissionTicks s = .next ((s.emit c v).withInput ((raws.drop s.emissionTicks).map tickWord)) := by
  obtain ⟨k, hk⟩ : ∃ k, s.emissionTicks = k + 1 := Nat.exists_eq_succ_of_ne_zero s.emissionTicks_pos.ne'
  obtain ⟨t, hrun, htinv, hfilter, hstep⟩ := h.inv.runSteps_step hin (j := k) (by omega)
  have ht := (State.FlightAt.start h.inv h.mode h.txPos).of_runSteps hin (by omega) (by omega) hrun
  rw [h.filterRun_eq fun r hr => hsym r (List.mem_of_mem_take hr)] at hfilter
  have htick : filterTick t.cfg t.filter raws[k] = s.filter := by
    rw [ht.cfg, hfilter, h.filterTick_eq (hsym _ (List.getElem_mem _))]
  have hfout : (filterTick t.cfg t.filter raws[k]).fout = y.code := (congrArg FilterRegs.fout htick).trans h.fout
  rw [hk, runSteps_succ, hrun, andThen_next, hstep]
  generalize (raws.drop (k + 1)).map tickWord = ws
  have hinv := htinv.withInput ws
  have hset := hinv.ticked_keepsSetting raws[k]
  have hmain := State.ticked_mainRegs_of_command (s := t.withInput ws) (raw := raws[k]) (c := c) (v := v)
    (mode_ne_three hinv.mode_le) (ht.evaluates_iff.mpr hk.symm) (by
      change commandFor t.cfg t.prev (filterTick t.cfg t.filter raws[k]).fout = _
      rw [hfout, ht.cfg, ht.prev, h.prev, hcmd])
  have hregs : ((t.withInput ws).ticked raws[k]).mainRegs = ((s.emit c v).withInput ws).mainRegs := by
    rw [hmain]
    change MainRegs.mk (filterTick t.cfg t.filter raws[k]).fout modeTx c 0 v t.waitLeft true true c =
      ⟨s.prev, modeTx, c, 0, v, s.waitLeft, s.pin, true, c⟩
    rw [hfout, ht.waitLeft_of_last hk.symm hwait, h.prev, h.pin]
  have hfilter' : ((t.withInput ws).ticked raws[k]).filter = ((s.emit c v).withInput ws).filter :=
    (State.ticked_filter _ _).trans htick
  rw [(hinv.ticked raws[k]).eq_of_regs ((h.emit c v).withInput ws).inv hregs hfilter' (hset.cfg.trans ht.cfg) hset.input]

/-! ### Repeated emissions -/

/-- An emission that repeats the command in flight leaves what is there already. -/
theorem emit_self {s : State} {y : Symbol} (h : s.SentHeld y) (hstrobe : s.cmdStrobe = true) (hcode : s.cmdCode = s.txCmd) :
    s.emit s.txCmd s.txVol = s := by
  obtain ⟨-, -, hm, hpos, -, -, -⟩ := h
  obtain ⟨⟩ := s
  cases hm
  cases hpos
  cases hstrobe
  cases hcode
  rfl

end State.SentHeld

/-- `s` is right after an emission that the held symbol `y` repeats: the next evaluation sends the same command. -/
structure State.SentAgain (s : State) (y : Symbol) : Prop extends s.SentHeld y where
  command : commandFor s.cfg y.code y.code = some (s.txCmd, s.txVol)
  wait : s.waitLeft = 0 ∨ post s.cfg s.txVol = 0
  strobe : s.cmdStrobe = true
  code : s.cmdCode = s.txCmd

namespace State.SentAgain

theorem withInput {s : State} {y : Symbol} (h : s.SentAgain y) (ws : List StimWord) : (s.withInput ws).SentAgain y where
  __ := h.toSentHeld.withInput ws
  __ := h

/-- After any number of periods of `L + P` ticks the state is the same again, but for the words taken. -/
theorem runSteps_periods {s : State} {y : Symbol} {raws : List RawSample} (h : s.SentAgain y)
    (hsym : ∀ r ∈ raws, classify s.cfg r = y) (hin : s.input = raws.map tickWord) {m : Nat}
    (hm : s.emissionTicks * m ≤ raws.length) :
    runSteps (s.emissionTicks * m) s = .next (s.withInput ((raws.drop (s.emissionTicks * m)).map tickWord)) := by
  induction m with
  | zero =>
    rw [Nat.mul_zero, List.drop_zero, ← hin]
    rfl
  | succ m ih =>
    rw [Nat.mul_succ] at hm ⊢
    rw [runSteps_add, ih (by omega), andThen_next]
    generalize s.emissionTicks * m = k at hm ⊢
    have hs := h.withInput ((raws.drop k).map tickWord)
    have hnext := hs.next_emission (raws := raws.drop k) hs.wait hs.command (fun r hr => hsym r (List.mem_of_mem_drop hr)) rfl
      (by rw [List.length_drop]; exact Nat.le_sub_of_add_le' hm)
    rw [hs.emit_self hs.strobe hs.code, List.drop_drop] at hnext
    exact hnext

/-- The ticks that emit are the multiples of `L + P`, and each sends the same command. -/
theorem strobe_iff {s : State} {y : Symbol} {raws : List RawSample} (h : s.SentAgain y)
    (hsym : ∀ r ∈ raws, classify s.cfg r = y) (hin : s.input = raws.map tickWord) {j : Nat} (hj : j ≤ raws.length) :
    ∃ t, runSteps j s = .next t ∧ (t.cmdStrobe = true ↔ j % s.emissionTicks = 0) ∧
      (t.cmdStrobe = true → t.cmdCode = s.txCmd ∧ t.txVol = s.txVol ∧ t.txPos = 0) := by
  have hpos := s.emissionTicks_pos
  obtain ⟨m, r, hr, rfl⟩ : ∃ m r, r < s.emissionTicks ∧ j = s.emissionTicks * m + r :=
    ⟨j / s.emissionTicks, j % s.emissionTicks, Nat.mod_lt _ hpos, (Nat.div_add_mod _ _).symm⟩
  have hs := h.withInput ((raws.drop (s.emissionTicks * m)).map tickWord)
  rw [runSteps_add, h.runSteps_periods hsym hin (by omega), andThen_next, Nat.mul_add_mod, Nat.mod_eq_of_lt hr]
  obtain rfl | hr0 := Nat.eq_zero_or_pos r
  · exact ⟨_, rfl, by simp [h.strobe], fun _ => ⟨h.code, rfl, h.txPos⟩⟩
  · obtain ⟨t, hrun, ht⟩ := (State.FlightAt.start hs.inv hs.mode hs.txPos).run (raws := raws.drop (s.emissionTicks * m)) rfl
      (j := r) (by rw [List.length_drop]; omega) hr
    have hquiet := ht.quiet hr0
    exact ⟨t, hrun, by simp [hquiet, hr0.ne'], by simp [hquiet]⟩

end State.SentAgain

end Sys2Proof.Machine
end

section
/-! The statements of spec 43_dispatch.md. -/

namespace Sys2Proof.Machine

/-- Settles O31: `State.FlightAt` at each tick, the pin's level by the invariant, and the evaluation where the flight ends. -/
theorem emissionSchedule : Obligations.EmissionSchedule := by
  intro s raws hs hm hpos hin hlen
  have hstart := State.FlightAt.start hs hm hpos
  have hlen' : raws.length = s.emissionTicks := hlen
  refine ⟨fun j hj => ?_, fun j hj hj' => ?_, fun j hj => ?_, ?_⟩
  · obtain ⟨t, hrun, ht⟩ := hstart.run hin (j := j) (by omega) (by omega)
    obtain ⟨-, hmode, htx, -⟩ | ⟨hle, -⟩ := ht.phase
    · have hpin := ht.inv.pin_tx hmode
      rw [ht.cfg, ht.txCmd, htx] at hpin
      exact ⟨t, hrun, hmode, htx, ht.txCmd, hpin, by simp [State.busy, hmode]⟩
    · omega
  · obtain ⟨t, hrun, ht⟩ := hstart.run hin hj'.le (by omega)
    obtain ⟨hlt, -⟩ | ⟨-, hmode, hleft⟩ := ht.phase
    · omega
    · exact ⟨t, hrun, hmode, by omega, ht.inv.pin_idle (by simp [hmode]), by simp [State.busy, hmode]⟩
  · obtain ⟨t, hrun, -, -, hstep⟩ := hs.runSteps_step hin (j := j) (by omega)
    have ht := hstart.of_runSteps hin (by omega) (by omega) hrun
    have hu := (ht.withInput ((raws.drop (j + 1)).map tickWord)).tick (by omega) raws[j]
    refine ⟨t, _, hrun, ?_, hstep, hu.prev, hu.quiet (Nat.succ_pos j)⟩
    rw [Bool.eq_false_iff, Ne, ht.evaluates_iff]
    omega
  · have hpositive := s.emissionTicks_pos
    obtain ⟨t, hrun, htinv, -, hstep⟩ := hs.runSteps_step hin (j := raws.length - 1) (by omega)
    have ht := hstart.of_runSteps hin (by omega) (by omega) hrun
    have heval : t.evaluates = true := ht.evaluates_iff.mpr (by omega)
    refine ⟨t, _, hrun, heval, hstep, ?_⟩
    rw [State.ticked_prev]
    · exact if_pos heval
    · exact mode_ne_three htinv.mode_le

/-- Settles O32: the main-loop registers of such a tick are the scheduler's and the pin's alone, and the scheduler stays busy. -/
theorem busyTickIgnoresInput : Obligations.BusyTickIgnoresInput := by
  intro s1 s2 t1 t2 raw1 raw2 hregs hcfg heval h1 h2
  obtain ⟨hmode, rfl⟩ := eq_ticked_of_execOpTick h1
  obtain ⟨-, rfl⟩ := eq_ticked_of_execOpTick h2
  refine ⟨mainRegs_ticked_congr hregs hcfg hmode heval raw1 raw2, ?_⟩
  rw [State.ticked_of_not_evaluates hmode heval]
  exact ⟨decide_eq_true (State.scheduled_mode_ne_ready (s := s1.latch raw1) hmode heval), rfl⟩

/-- Settles O38: VOL_UP repeats its command, edge or not, and the period is `L + P` with the wait of a volume command. -/
theorem volumeCadence : Obligations.VolumeCadence := by
  intro s m raws hs hos hm hpos hvol hcmd hstrobe hcode hleft hzero hstable hprev hsym hin hlen
  have hperiod : s.emissionTicks =
      txLen s.cfg.addr s.cfg.cmdVolup + s.cfg.repeatWait.toNat + s.cfg.resumeGap.toNat := by
    rw [State.emissionTicks, hcmd, hvol, post, if_pos rfl, Nat.add_assoc]
  have hagain : s.SentAgain .volUp := {
    inv := hs, oneshot := hos, mode := hm, txPos := hpos, dcount := hzero, stable := hstable, prev := hprev
    command := by rw [hcmd, hvol]; rfl
    wait := .inl hleft
    strobe := hstrobe
    code := hcode.trans hcmd.symm }
  rw [← hperiod] at hlen ⊢
  refine ⟨fun j hj => ?_, ?_⟩
  · obtain ⟨t, hrun, hiff, -⟩ := hagain.strobe_iff hsym hin hj
    exact ⟨t, hrun, hiff⟩
  · have hrun := hagain.runSteps_periods hsym hin (m := m) (by rw [hlen, Nat.mul_comm])
    rwa [Nat.mul_comm, ← hlen, List.drop_length] at hrun

/-- Settles O39: the evaluation after the first code sends the held code, and the held code repeats itself. -/
theorem heldSeekCadence : Obligations.HeldSeekCadence := by
  intro s y first held m raws hs hos hgap hm hpos hvol hseek hfirst hzero hstable hprev hsym hin hlen j hj0 hj
  have hheld : commandFor s.cfg y.code y.code = some (held, false) := by
    obtain ⟨rfl, -, rfl⟩ | ⟨rfl, -, rfl⟩ := hseek <;> rfl
  have hpost : post s.cfg false = 0 := by simp [post, hgap]
  have hticks : s.emissionTicks = txLen s.cfg.addr first := by
    rw [State.emissionTicks, hfirst, hvol, hpost, Nat.add_zero]
  have hsent : s.SentHeld y := ⟨hs, hos, hm, hpos, hzero, hstable, hprev⟩
  rw [← hticks] at hlen ⊢
  obtain hlt | ⟨k, rfl⟩ : j < s.emissionTicks ∨ ∃ k, j = s.emissionTicks + k :=
    (lt_or_ge _ _).imp_right Nat.exists_eq_add_of_le
  · obtain ⟨t, hrun, ht⟩ := (State.FlightAt.start hs hm hpos).run hin hj hlt
    have hquiet := ht.quiet hj0
    exact ⟨t, hrun, by simp [hquiet, hlt.not_ge], by simp [hquiet]⟩
  · have hnext := hsent.next_emission (.inr (hvol ▸ hpost)) hheld hsym hin (by omega)
    have hagain : ((s.emit held false).withInput ((raws.drop s.emissionTicks).map tickWord)).SentAgain y := {
      (hsent.emit held false).withInput _ with
      command := hheld
      wait := .inr hpost
      strobe := rfl
      code := rfl }
    obtain ⟨t, hrun, hiff, hcode⟩ := hagain.strobe_iff (raws := raws.drop s.emissionTicks)
      (fun r hr => hsym r (List.mem_of_mem_drop hr)) rfl (j := k) (by rw [List.length_drop]; omega)
    have hperiod : ((s.emit held false).withInput ((raws.drop s.emissionTicks).map tickWord)).emissionTicks =
        txLen s.cfg.addr held := congrArg (txLen s.cfg.addr held + ·) hpost
    refine ⟨t, ?_, ?_, hcode⟩
    · rw [runSteps_add, hnext, andThen_next, hrun]
    · rw [hiff, hperiod, Nat.add_sub_cancel_left, and_iff_right (Nat.le_add_right _ _)]

/-- Settles O12: each stage is the operation its word selects, and the last is R199's level. -/
theorem tickRunsItsSelectedOperations : Obligations.TickRunsItsSelectedOperations := by
  refine ⟨fun w hw => ?_, fun raw s => ?_⟩
  · obtain ⟨hrst, hreserved⟩ := (and_tickMask_iff w).mp hw
    exact decodeStim_of_tick hrst hreserved
  · change execOpTick raw s = _
    unfold execOpTick
    by_cases hreset : s.hasReset = false
    · have hguard : guardStage (s.latch raw) = .fault .notReset := by simp [guardStage, hreset]
      rw [if_pos hreset, hguard, andThen_fault]
    · have hguard : guardStage (s.latch raw) = .next (s.latch raw) :=
        guardStage_eq_next.mpr ⟨by simpa using hreset, rfl⟩
      rw [if_neg hreset, hguard, andThen_next]
      cases hsel : decodeSsel (sselWord (s.latch raw)) with
      | none =>
        have hsched : schedStage (s.latch raw) = .fault .reservedMode := by rw [schedStage, hsel]
        rw [hsched, andThen_fault]
      | some i =>
        rw [← exec_of_decodeSsel_sselWord hsel]
        refine andThen_congr fun s1 h1 => ?_
        have hwave : s1.loc.wave = [] := wave_of_schedStage ((exec_of_decodeSsel_sselWord hsel).symm.trans h1)
        simp only [exec_decodeCsel_cselWord, exec_decodeDsel_dselWord, exec_decodeOsel_oselWord,
          classStage_eq, filterStage_eq_setFilter, outputStage_eq_setFilter, andThen_next]
        rw [dispatch_pin_clearLoc, dispatchStage_eq_exec]
        · rfl
        · exact hwave

/-- Settles O30: in each case the selected operation is the scheduler stage, whose effect that case says. -/
theorem schedulerSelectsAndRuns : Obligations.SchedulerSelectsAndRuns := by
  intro s
  refine ⟨fun hm => ?_, fun hm hadv => ?_, fun hm hlast hpost => ?_, fun hm hlast hpost hc => ?_, fun hm hleft => ?_,
    fun hm hzero => ?_⟩
  · have hsel : decodeSsel (sselWord s) = some .schEval := by simp [decodeSsel_sselWord, hm]
    exact ⟨hsel, exec_eq_of_scheduled hsel (State.scheduled_of_ready hm)⟩
  · have hsel : decodeSsel (sselWord s) = some .schTxAdv := by simp [decodeSsel_sselWord, hm, hadv.ne]
    have hsched := State.scheduled_of_tx_adv hm hadv
    rw [State.setTxPos_succ] at hsched
    exact ⟨hsel, exec_eq_of_scheduled hsel hsched, toNat_txPos_succ hadv⟩
  · have hsel : decodeSsel (sselWord s) = some .schTxDoneEval := by simp [decodeSsel_sselWord, hm, hlast, hpost]
    exact ⟨hsel, exec_eq_of_scheduled hsel (State.scheduled_of_tx_last_eval hm hlast hpost)⟩
  · have hsel : decodeSsel (sselWord s) = some .schTxDoneWait := by simp [decodeSsel_sselWord, hm, hlast, hpost.ne']
    have hfits := post_le_of_legal hc s.txVol
    exact ⟨hsel, BitVec.ofNat 16 (post s.cfg s.txVol - 1), State.toNat_setWaitLeft s (by omega),
      exec_eq_of_scheduled hsel (State.scheduled_of_tx_last_wait hm hlast hpost)⟩
  · have hne : s.waitLeft ≠ 0#16 := fun h0 => hleft.ne' (congrArg BitVec.toNat h0)
    have hsel : decodeSsel (sselWord s) = some .schWaitDec := by simp [decodeSsel_sselWord, hm, hne]
    have hsched := State.scheduled_of_wait_dec hm hne
    rw [State.setWaitLeft_pred hleft] at hsched
    exact ⟨hsel, exec_eq_of_scheduled hsel hsched, toNat_waitLeft_pred hleft⟩
  · have hsel : decodeSsel (sselWord s) = some .schWaitDone := by simp [decodeSsel_sselWord, hm, hzero]
    exact ⟨hsel, exec_eq_of_scheduled hsel (State.scheduled_of_wait_done hm hzero)⟩

/-- Settles O33: each symbol's operation by the edge, and `State.emit` as the whole effect of an emission. -/
theorem dispatcherSelectsAndRuns : Obligations.DispatcherSelectsAndRuns :=
  fun _ =>
    ⟨fun hy => ⟨decodePsel_pselWord (y := .idle) hy, rfl⟩,
     fun hy => ⟨decodePsel_pselWord (y := .volUp) hy, rfl⟩,
     fun hy => ⟨decodePsel_pselWord (y := .volDown) hy, rfl⟩,
     fun hy hedge => ⟨decodePsel_pselWord_of_edge (y := .source) hy hedge, rfl⟩,
     fun hy hheld => ⟨decodePsel_pselWord_of_held (y := .source) hy hheld, rfl⟩,
     fun hy hedge => ⟨decodePsel_pselWord_of_edge (y := .extra) hy hedge, rfl⟩,
     fun hy hheld => ⟨decodePsel_pselWord_of_held (y := .extra) hy hheld, rfl⟩⟩

/-- Settles O34: without an edge `HELD_SAME` picks the operation. -/
theorem seekDispatcherSelectsAndRuns : Obligations.SeekDispatcherSelectsAndRuns := by
  intro s
  have hfirst (y : Symbol) (hy : s.fout = y.code) (hedge : s.fout ≠ s.prev) := decodePsel_pselWord_of_edge hy hedge
  have hheld (y : Symbol) (b : Bool) (hy : s.fout = y.code) (hsame : s.fout = s.prev) (hb : s.cfg.heldSame = b) :
      decodePsel (pselWord s) = some (dispatchOp y false b) := by
    rw [decodePsel_pselWord_of_held hy hsame, hb]
  exact
    ⟨fun hy hedge => ⟨hfirst .seekFwd hy hedge, rfl⟩,
     fun hy hsame hb => ⟨hheld .seekFwd false hy hsame hb, rfl⟩,
     fun hy hsame hb => ⟨hheld .seekFwd true hy hsame hb, rfl⟩,
     fun hy hedge => ⟨hfirst .seekBack hy hedge, rfl⟩,
     fun hy hsame hb => ⟨hheld .seekBack false hy hsame hb, rfl⟩,
     fun hy hsame hb => ⟨hheld .seekBack true hy hsame hb, rfl⟩⟩

/-- Settles O35: `prev` is the dispatcher stage's alone, and the stages after it leave the filter output. -/
theorem evaluationRecordsPrevious : Obligations.EvaluationRecordsPrevious := by
  intro raw s t h
  obtain ⟨hmode, rfl⟩ := eq_ticked_of_execOpTick h
  have hprev := State.ticked_prev hmode raw
  split
  next heval => rwa [if_pos heval] at hprev
  next heval => rwa [if_neg heval] at hprev

end Sys2Proof.Machine
end

section
/-! SUPPORT. The parts of a frame (R197): its segments by number and type, its levels cut at the start of the address, of the
command and of the stop bits, and a transmission as repeated frames. -/

namespace Sys2Proof.Machine

/-! ### Segments -/

theorem length_bitSegs (b : Bool) : (bitSegs b).length = 2 + b.toNat := by
  cases b <;> rfl

theorem length_field7Segs (v : CmdCode) : (field7Segs v).length = 14 + popcount7 v := by
  simp only [field7Segs, popcount7, List.length_flatMap, length_bitSegs, List.sum_map_add]
  rfl

theorem length_frameSegs (addr c : CmdCode) : (frameSegs addr c).length = 40 + popcount7 addr + popcount7 c := by
  have hheader : headerSegs.length = 3 := rfl
  simp only [frameSegs, List.length_append, hheader, length_bitSegs, length_field7Segs, Bool.toNat_true]
  omega

theorem mem_txSegs_of_mem_frameSegs {addr c : CmdCode} {g : Seg} (h : g ∈ frameSegs addr c) : g ∈ txSegs addr c :=
  List.mem_flatten.mpr ⟨frameSegs addr c, List.mem_replicate.mpr ⟨by decide, rfl⟩, h⟩

/-! ### Levels -/

/-- The 29 levels before the address: the header and the start bit (R200). -/
def frameStart : List Bool := [true] ++ List.replicate 16 false ++ List.replicate 8 true ++ bitWave true

/-- The 8 levels after the command: the two stop bits (R200). -/
def frameStop : List Bool := bitWave true ++ bitWave true

theorem frameWave_eq (addr c : CmdCode) :
    frameWave addr c = frameStart ++ (fieldWave addr ++ (fieldWave c ++ frameStop)) := by
  simp only [frameWave, frameStart, frameStop, List.append_assoc]

theorem take_frameWave_start (addr c : CmdCode) : (frameWave addr c).take 29 = frameStart := by
  rw [frameWave_eq]
  exact List.take_left' rfl

theorem drop_frameWave_start (addr c : CmdCode) :
    (frameWave addr c).drop 29 = fieldWave addr ++ (fieldWave c ++ frameStop) := by
  rw [frameWave_eq]
  exact List.drop_left' rfl

theorem drop_frameWave_address (addr c : CmdCode) :
    (frameWave addr c).drop (29 + (fieldWave addr).length) = fieldWave c ++ frameStop := by
  rw [← List.drop_drop, drop_frameWave_start, List.drop_left]

theorem drop_frameWave_command (addr c : CmdCode) :
    (frameWave addr c).drop (29 + (fieldWave addr).length + (fieldWave c).length) = frameStop := by
  rw [← List.drop_drop, drop_frameWave_address, List.drop_left]

/-! ### Repeated frames -/

theorem getElem?_flatten_replicate {α : Type} {l : List α} {n r j : Nat} (hr : r < n) (hj : j < l.length) :
    (List.replicate n l).flatten[r * l.length + j]? = l[j]? := by
  induction n generalizing r with
  | zero => exact absurd hr r.not_lt_zero
  | succ n ih =>
    rw [List.replicate_succ, List.flatten_cons]
    cases r with
    | zero => rw [Nat.zero_mul, Nat.zero_add, List.getElem?_append_left hj]
    | succ r =>
      have hindex : (r + 1) * l.length + j = l.length + (r * l.length + j) := by ring
      rw [hindex, List.getElem?_append_right (Nat.le_add_right _ _), Nat.add_sub_cancel_left, ih (Nat.lt_of_succ_lt_succ hr)]

theorem txWave_eq_flatten_replicate (addr c : CmdCode) :
    txWave addr c = (List.replicate frameRepeats (frameWave addr c)).flatten := by
  simp [txWave, frameRepeats, List.replicate]

end Sys2Proof.Machine
end

section
/-! The statements of spec 44_encoder.md. -/

namespace Sys2Proof.Machine

/-- Settles O42: every type of the list is defined, so it plays whole, and its levels are `TXWAVE`. -/
theorem segmentsBuildTheWaveform : Obligations.SegmentsBuildTheWaveform := by
  intro addr c s
  refine ⟨?_, length_frameSegs addr c, fun g hg => ?_⟩
  · obtain ⟨b, hplay⟩ := playSegs_eq (txSegs addr c) s (txSegs_kind addr c)
    rw [flatMap_segWave_txSegs] at hplay
    exact ⟨_, hplay, rfl, rfl⟩
  · have hkind : g.kind.toNat ≤ 5 := txSegs_kind addr c g (mem_txSegs_of_mem_frameSegs hg)
    constructor <;> intro hreserved <;> rw [hreserved] at hkind <;> exact absurd hkind (by decide)

/-- Settles O43: the bounds are those of the number of one bits in a command, 0 to 7. -/
theorem waveformLengths : Obligations.WaveformLengths := by
  have hframe (addr c : CmdCode) : (frameWave addr c).length = 65 + 2 * popcount7 addr + 2 * popcount7 c :=
    length_frameWave addr c
  have htx (addr c : CmdCode) : txLen addr c = 3 * (frameWave addr c).length := by
    rw [length_frameWave, txLen, frameRepeats]
  have haddr (c : CmdCode) : (frameWave 0x47 c).length = 73 + 2 * popcount7 c := hframe 0x47 c
  refine ⟨fun addr c => ⟨hframe addr c, length_txWave addr c, htx addr c, txLen_le addr c⟩, fun c => ⟨haddr c, ?_⟩,
    haddr 0x00, haddr 0x7F⟩
  have hones := popcount7_le c
  rw [htx, haddr]
  omega

/-- Settles O44: the cuts of a frame at the address, 22 ticks for `0x47`, and at the command; the frames are copies of one. -/
theorem frameLayout : Obligations.FrameLayout := by
  intro c
  have hcommand : (frameWave 0x47 c).drop 51 = fieldWave c ++ frameStop := drop_frameWave_address 0x47 c
  refine ⟨take_frameWave_start 0x47 c, ?_, ?_, ?_, fun r j hr hj => ?_⟩
  · rw [drop_frameWave_start]
    exact List.take_left' rfl
  · rw [hcommand]
    exact List.take_left' (length_fieldWave c)
  · have hstop := drop_frameWave_command 0x47 c
    rw [length_fieldWave c, ← Nat.add_assoc] at hstop
    exact hstop
  · rw [← length_frameWave] at hj ⊢
    rw [txWave_eq_flatten_replicate]
    exact getElem?_flatten_replicate hr hj

/-- Settles O45: the pin stage comes last, and drives the level of the mode and position that the tick leaves. -/
theorem pinDrivesTheWaveform : Obligations.PinDrivesTheWaveform := by
  intro raw s t h
  obtain ⟨-, rfl⟩ := eq_ticked_of_execOpTick h
  split
  next hm => exact drive_pin_of_tx hm
  next hm => exact drive_pin_of_not_tx hm

/-- Settles O41: each operation is its `State.appendSeg`; ENC_EXT appends for the bit value 1 alone. -/
theorem encoderOperations : Obligations.EncoderOperations := by
  refine fun s => ⟨rfl, rfl, rfl, rfl, rfl, ?_⟩
  change execEncExt s = _
  unfold execEncExt
  by_cases hbit : s.loc.encBit = true
  · rw [if_pos hbit, if_pos hbit]
    rfl
  · rw [if_neg hbit, if_neg hbit, List.append_nil]

end Sys2Proof.Machine
end

section
/-! SUPPORT. What an OP_TICK can answer (R220, R228 (b)), and what its stop makes of a run (R224). -/

namespace Sys2Proof.Machine

/-! ### The checks of a tick -/

theorem mode_ne_three_of_evaluates {s : State} (h : s.evaluates = true) : s.mode ≠ 3 := by
  intro hm
  simp [State.evaluates, hm, modeReady, modeTx, modeWait] at h

theorem guardStage_of_not_reset {s : State} (h : s.hasReset = false) : guardStage s = .fault .notReset := by
  simp [guardStage, h]

theorem schedStage_of_mode_three {s : State} (h : s.mode = 3) : schedStage s = .fault .reservedMode := by
  rw [schedStage_eq, h]
  rfl

theorem dispatchStage_of_reserved_symbol {s : State} (heval : s.loc.eval = true) (h7 : s.fout = 7) :
    dispatchStage s = .fault .reservedSymbol := by
  rw [dispatchStage_eq, if_pos heval, evaluate_eq]
  exact if_pos h7

/-- Past the guard and the scheduler stage the next check is the dispatcher's: the classifier and the filter always go on. -/
theorem execOpTick_eq_dispatch {s : State} (raw : RawSample) (hreset : s.hasReset = true) (hmode : s.mode ≠ 3) :
    execOpTick raw s =
      andThen (dispatchStage (s.latch raw).scheduled.filtered) fun t => andThen (pinStage t) fun u => .next u.clearLoc := by
  have hguard : guardStage (s.latch raw) = .next (s.latch raw) := guardStage_eq_next.mpr ⟨hreset, rfl⟩
  have hsched : schedStage (s.latch raw) = .next (s.latch raw).scheduled := schedStage_eq_scheduled hmode
  rw [execOpTick, hguard, andThen_next, hsched, andThen_next, classStage_eq, andThen_next, filterStage_eq_setFilter,
    andThen_next, outputStage_eq_setFilter, andThen_next]
  rfl

/-- Every answer of an OP_TICK: one of three faults, in the order of R228 (b), or the composition of its stages. -/
theorem execOpTick_eq_ite (raw : RawSample) (s : State) :
    execOpTick raw s =
      if s.hasReset = false then .fault .notReset
      else if s.mode = 3 then .fault .reservedMode
      else if s.evaluates = true ∧ (filterTick s.cfg s.filter raw).fout = 7 then .fault .reservedSymbol
      else .next (s.ticked raw) := by
  split_ifs with hreset hmode hsym
  · rw [execOpTick, guardStage_of_not_reset (s := s.latch raw) hreset, andThen_fault]
  · have hguard : guardStage (s.latch raw) = .next (s.latch raw) := guardStage_eq_next.mpr ⟨by simpa using hreset, rfl⟩
    rw [execOpTick, hguard, andThen_next, schedStage_of_mode_three (s := s.latch raw) hmode, andThen_fault]
  · obtain ⟨heval, h7⟩ := hsym
    rw [← State.filtered_eval_of_latch hmode raw] at heval
    rw [← s.filtered_filter_of_latch raw] at h7
    rw [execOpTick_eq_dispatch raw (by simpa using hreset) hmode, dispatchStage_of_reserved_symbol heval h7, andThen_fault]
  · exact execOpTick_eq_ticked raw (by simpa using hreset) hmode fun heval h7 => hsym ⟨heval, h7⟩

theorem execOpTick_of_not_reset {s : State} (raw : RawSample) (h : s.hasReset = false) :
    execOpTick raw s = .fault .notReset := by
  rw [execOpTick_eq_ite, if_pos h]

theorem execOpTick_of_mode_three {s : State} (raw : RawSample) (hreset : s.hasReset = true) (hmode : s.mode = 3) :
    execOpTick raw s = .fault .reservedMode := by
  rw [execOpTick_eq_ite, if_neg (by simp [hreset]), if_pos hmode]

/-- An evaluation tick is in a defined mode, so the symbol is the first check that applies. -/
theorem execOpTick_of_reserved_symbol {s : State} {raw : RawSample} (hreset : s.hasReset = true) (heval : s.evaluates = true)
    (h7 : (filterTick s.cfg s.filter raw).fout = 7) : execOpTick raw s = .fault .reservedSymbol := by
  rw [execOpTick_eq_ite, if_neg (by simp [hreset]), if_neg (mode_ne_three_of_evaluates heval), if_pos ⟨heval, h7⟩]

/-! ### A stop is final -/

theorem runSteps_of_fault {s : State} {r : Fault} (h : step s = .fault r) (k : Nat) : runSteps (k + 1) s = .fault r := by
  rw [runSteps, h, andThen_fault]

theorem runSteps_of_refused {s : State} {r : Refusal} (h : step s = .refused r) (k : Nat) :
    runSteps (k + 1) s = .refused r := by
  rw [runSteps, h, andThen_refused]

theorem step_of_tickWord {s : State} {raw : RawSample} {ws : List StimWord} (hc : s.cfg.legal = true) (hslot : s.slot = none)
    (hin : s.input = tickWord raw :: ws) : step s = execOpTick raw (s.withInput ws) :=
  step_of_decodeStim hc hslot hin (decodeStim_tickWord raw)

end Sys2Proof.Machine
end

section
/-! SUPPORT. Runs over stimulus words that are not reserved: from the invariant each such word is one step that goes on (R225). -/

namespace Sys2Proof

/-- The stimulus words that are not reserved are those that spell an operation (R75). -/
theorem isSome_decodeStim_iff (w : StimWord) :
    (decodeStim w).isSome = true ↔ w.getLsbD 15 = true ∨ w.extractLsb' 10 5 = 0 := by
  have h : (decodeStim w).isSome = (OpWord.stim w).wellFormed := isSome_decode (.stim w)
  rw [h]
  simp [OpWord.wellFormed]

namespace Machine

/-- From the invariant a word that spells an operation completes, and is the one word taken. -/
theorem State.Inv.step_of_isSome {s : State} (hs : s.Inv) {w : StimWord} {ws : List StimWord} (hin : s.input = w :: ws)
    (hw : (decodeStim w).isSome = true) : ∃ t, step s = .next t ∧ t.Inv ∧ t.input = ws := by
  obtain ⟨i, hi⟩ := Option.isSome_iff_exists.mp hw
  have hstep := step_of_decodeStim hs.legal hs.slot hin hi
  obtain ⟨t, ht⟩ : ∃ t, exec i (s.withInput ws) = .next t := by
    obtain rfl | ⟨raw, rfl⟩ := decodeStim_cases hi
    · exact ⟨_, rfl⟩
    · exact ⟨_, (hs.withInput ws).execOpTick_eq raw⟩
  rw [ht] at hstep
  exact ⟨t, hstep, hs.of_step hstep, (exec_keepsSetting i _ t ht).input⟩

/-- From the invariant a run takes the words that spell an operation, one a step. -/
theorem State.Inv.runSteps_of_isSome {s : State} (hs : s.Inv) {ws rest : List StimWord} (hin : s.input = ws ++ rest)
    (hws : ∀ w ∈ ws, (decodeStim w).isSome = true) : ∃ t, runSteps ws.length s = .next t ∧ t.Inv ∧ t.input = rest := by
  induction ws generalizing s with
  | nil => exact ⟨s, rfl, hs, hin⟩
  | cons w ws ih =>
    obtain ⟨hw, hws⟩ := List.forall_mem_cons.mp hws
    obtain ⟨u, hu, huinv, huin⟩ := hs.step_of_isSome hin hw
    obtain ⟨t, ht, htinv, htin⟩ := ih huinv huin hws
    refine ⟨t, ?_, htinv, htin⟩
    rw [List.length_cons, runSteps, hu, andThen_next, ht]

/-- The invariant, with no reserved word still to come. -/
structure State.Safe (s : State) : Prop where
  inv : s.Inv
  input : ∀ w ∈ s.input, (decodeStim w).isSome = true

/-- A safe state always has a next state, and that state is safe: with no word pending it is held (R227). -/
theorem State.Safe.step {s : State} (hs : s.Safe) : ∃ t, step s = .next t ∧ t.Safe := by
  cases hin : s.input with
  | nil => exact ⟨s, step_of_no_input hs.inv.legal hs.inv.slot hin, hs⟩
  | cons w ws =>
    have hwords := hs.input
    rw [hin] at hwords
    obtain ⟨hw, hws⟩ := List.forall_mem_cons.mp hwords
    obtain ⟨t, ht, htinv, htin⟩ := hs.inv.step_of_isSome hin hw
    exact ⟨t, ht, htinv, by rwa [htin]⟩

theorem State.Safe.runSteps {s : State} (hs : s.Safe) (k : Nat) : ∃ t, runSteps k s = .next t := by
  induction k generalizing s with
  | zero => exact ⟨s, rfl⟩
  | succ k ih =>
    obtain ⟨u, hu, husafe⟩ := hs.step
    obtain ⟨t, ht⟩ := ih husafe
    exact ⟨t, andThen_eq_next.mpr ⟨u, hu, ht⟩⟩

end Machine

end Sys2Proof
end

section
/-! The statements of spec 60_exceptions.md. -/

namespace Sys2Proof.Machine

/-- Settles O50: the first word makes a safe state, and a safe state has a next one, which is safe again. -/
theorem noFaultOnLegalInput : Obligations.NoFaultOnLegalInput := by
  intro s w ws k hc hslot hin hrst hws
  cases k with
  | zero => exact ⟨s, rfl⟩
  | succ k =>
    have hsafe : (s.withInput ws).resetRegs.Safe :=
      ⟨State.resetRegs_inv hc hslot, fun v hv => (isSome_decodeStim_iff v).mpr (hws v hv)⟩
    rw [runSteps, step_of_rst hc hslot hin hrst, andThen_next]
    exact hsafe.runSteps k

/-- Settles O11: a tick's fault and the refusal of a reserved word are the whole run's, and up to that word the run completes. -/
theorem faultsAndRefusalsAreFinal : Obligations.FaultsAndRefusalsAreFinal := by
  constructor
  · intro s raw ws k hc hslot hin
    have hstep := step_of_tickWord hc hslot hin
    refine ⟨fun hreset => ?_, fun hreset hmode => ?_, fun hreset heval h7 => ?_⟩
    · exact runSteps_of_fault (hstep.trans (execOpTick_of_not_reset raw hreset)) k
    · exact runSteps_of_fault (hstep.trans (execOpTick_of_mode_three raw hreset hmode)) k
    · exact runSteps_of_fault (hstep.trans (execOpTick_of_reserved_symbol hreset heval h7)) k
  · intro s ws rest w hs hin hws hrst hreserved
    have hspell : ∀ v ∈ ws, (decodeStim v).isSome = true := fun v hv => (isSome_decodeStim_iff v).mpr (hws v hv)
    refine ⟨fun j hj => ?_, fun k => ?_⟩
    · have hsplit : s.input = ws.take j ++ (ws.drop j ++ w :: rest) := by
        rw [hin, ← List.append_assoc, List.take_append_drop]
      have hrun := hs.runSteps_of_isSome hsplit fun v hv => hspell v (List.mem_of_mem_take hv)
      rwa [List.length_take_of_le hj] at hrun
    · obtain ⟨t, hrun, ht, htin⟩ := hs.runSteps_of_isSome hin hspell
      have hstop := step_of_reserved ht.legal ht.slot htin (decodeStim_of_reserved hrst hreserved)
      rw [Nat.add_assoc, Nat.add_comm 1 k, runSteps_add, hrun, andThen_next, runSteps_of_refused hstop k]

/-- Settles O14: the checks of `execOpTick_eq_ite`, one by one. -/
theorem faultChecksInStageOrder : Obligations.FaultChecksInStageOrder :=
  fun raw s =>
    ⟨execOpTick_of_not_reset raw, execOpTick_of_mode_three raw, execOpTick_of_reserved_symbol,
     fun hreset hmode hsym => ⟨s.ticked raw, execOpTick_eq_ticked raw hreset hmode hsym⟩⟩

/-- Settles O15: no answer of a tick is the fault of a reserved segment or a refusal. -/
theorem tickNeverMeetsReservedSegment : Obligations.TickNeverMeetsReservedSegment := by
  intro raw s
  change execOpTick raw s ≠ _ ∧ ∀ r, execOpTick raw s ≠ .refused r
  rw [execOpTick_eq_ite]
  split_ifs
  all_goals exact ⟨nofun, nofun⟩

end Sys2Proof.Machine
end

section
/-! SUPPORT. Reset as one write, and the ticks that send nothing (R250 to R255, R265, R281): a silent tick of the main loop, the
suppressed filter of a held button in one-shot mode, and the wait in READY for a first commit. -/

namespace Sys2Proof.Machine

/-! ### Reset -/

/-- OP_RESET reads the configuration alone, which it leaves as it is (R251), so that a second one finds nothing to write. -/
@[simp] theorem State.resetRegs_resetRegs (s : State) : s.resetRegs.resetRegs = s.resetRegs := rfl

theorem resetOf_inv {c : Config} (hc : c.legal = true) : (State.resetOf c).Inv :=
  State.resetRegs_inv (s := State.resetOf c) hc rfl

/-! ### One tick of a run -/

/-- A run over pending `TICK` words, around its tick `j`: what the filter leaves there is what the run of the filter alone has. -/
theorem State.Inv.runSteps_tick {s : State} (hs : s.Inv) {raws : List RawSample} (hin : s.input = raws.map tickWord) {j : Nat}
    (hj : j < raws.length) :
    ∃ t, runSteps j s = .next t ∧ t.Inv ∧ t.cfg = s.cfg ∧
      filterTick t.cfg t.filter raws[j] = filterRun s.cfg s.filter (raws.take (j + 1)) ∧
      runSteps (j + 1) s = .next ((t.withInput ((raws.drop (j + 1)).map tickWord)).ticked raws[j]) := by
  obtain ⟨t, hrun, ht, hfilter, hstep⟩ := hs.runSteps_step hin hj
  obtain ⟨hcfg, -⟩ := runsKeepConfiguration j s t hrun
  refine ⟨t, hrun, ht, hcfg, ?_, ?_⟩
  · rw [List.take_succ_eq_append_getElem hj, filterRun_concat, hcfg, hfilter]
  · rw [runSteps_succ, hrun, andThen_next, hstep]

/-! ### Ticks that send nothing -/

theorem commandFor_idle (c : Config) (prev : SymCode) : commandFor c prev Symbol.idle.code = none := rfl

/-- Every button has a command for its first evaluation after IDLE (R73). -/
theorem commandFor_of_press (c : Config) {y : Symbol} (hy : y ≠ .idle) :
    ∃ cmd v, commandFor c Symbol.idle.code y.code = some (cmd, v) := by
  cases y with
  | idle => exact absurd rfl hy
  | volUp | volDown | source | seekFwd | seekBack | extra => exact ⟨_, _, rfl⟩

theorem symbolCode_ne_idle {y : Symbol} (hy : y ≠ .idle) : y.code ≠ Symbol.idle.code :=
  fun heq => hy (symbolCode_toNat_injective (congrArg BitVec.toNat heq))

/-- The main-loop registers after an evaluation tick that sends nothing (R73, R161, R199). -/
theorem State.ticked_mainRegs_of_no_command {s : State} {raw : RawSample} (hmode : s.mode ≠ 3) (heval : s.evaluates = true)
    (hcmd : commandFor s.cfg s.prev (filterTick s.cfg s.filter raw).fout = none) :
    (s.ticked raw).mainRegs =
      ⟨(filterTick s.cfg s.filter raw).fout, modeReady, s.txCmd, s.txPos, s.txVol, s.waitLeft, true, false, s.cmdCode⟩ := by
  rw [State.ticked_of_evaluates hmode heval, State.evaluated_of_no_command hcmd]
  rfl

/-- A tick whose filter output is IDLE sends nothing, evaluation or not (R171). -/
theorem State.ticked_cmdStrobe_of_idle {s : State} {raw : RawSample} (hmode : s.mode ≠ 3)
    (hidle : (filterTick s.cfg s.filter raw).fout = Symbol.idle.code) : (s.ticked raw).cmdStrobe = false := by
  cases heval : s.evaluates with
  | true =>
    have hcmd : commandFor s.cfg s.prev (filterTick s.cfg s.filter raw).fout = none := by rw [hidle, commandFor_idle]
    exact congrArg MainRegs.cmdStrobe (State.ticked_mainRegs_of_no_command hmode heval hcmd)
  | false =>
    rw [State.ticked_of_not_evaluates hmode heval]
    rfl

/-! ### A held button after its one-shot report -/

/-- A sample of the reported symbol leaves the filter at rest, its output the reset symbol (R120, R143). -/
theorem filterTick_of_suppressed {c : Config} {f : FilterRegs} {raw : RawSample} (hos : c.oneshot ≠ false)
    (hrst : f.stable ≠ c.resetSym) (harmed : f.armed ≠ true) (hsym : (classify c raw).code = f.stable) :
    filterTick c f raw = { f with dcount := 0, fout := c.resetSym } := by
  rw [filterTick, filterStep_of_match hsym]
  exact filterOutput_of_suppressed (f := { f with dcount := 0 }) hos hrst harmed

/-- However long the symbol stays, its first sample has done all there is to do. -/
theorem filterRun_of_suppressed {c : Config} {f : FilterRegs} {raws : List RawSample} (hos : c.oneshot ≠ false)
    (hrst : f.stable ≠ c.resetSym) (harmed : f.armed ≠ true) (hsym : ∀ r ∈ raws, (classify c r).code = f.stable)
    (hne : raws ≠ []) : filterRun c f raws = { f with dcount := 0, fout := c.resetSym } := by
  induction raws generalizing f with
  | nil => exact absurd rfl hne
  | cons raw raws ih =>
    obtain ⟨hraw, hraws⟩ := List.forall_mem_cons.mp hsym
    rw [filterRun_cons, filterTick_of_suppressed hos hrst harmed hraw]
    cases raws with
    | nil => rfl
    | cons => exact ih hrst harmed hraws (List.cons_ne_nil _ _)

/-! ### The wait for a first commit -/

/-- Between two ticks, in READY under continuous output, the last evaluation read IDLE. -/
structure State.AwaitsPress (s : State) : Prop where
  inv : s.Inv
  oneshot : s.cfg.oneshot = false
  mode : s.mode = modeReady
  prev : s.prev = Symbol.idle.code

namespace State.AwaitsPress

theorem withInput {s : State} (h : s.AwaitsPress) (ws : List StimWord) : (s.withInput ws).AwaitsPress where
  __ := h
  inv := h.inv.withInput ws

/-- With continuous output an evaluation reads the symbol that the filter step of its own tick left (R140). -/
theorem filterTick_fout {s : State} (h : s.AwaitsPress) (raw : RawSample) :
    (filterTick s.cfg s.filter raw).fout = (filterTick s.cfg s.filter raw).stable :=
  ((filterTick_inv h.inv.legal h.inv.filterInv raw).continuous h.oneshot).1

/-- A tick that commits no button is an evaluation that sends nothing. -/
theorem tick {s : State} (h : s.AwaitsPress) {raw : RawSample}
    (hidle : (filterTick s.cfg s.filter raw).stable = Symbol.idle.code) :
    (s.ticked raw).AwaitsPress ∧ (s.ticked raw).cmdStrobe = false := by
  have hfout : (filterTick s.cfg s.filter raw).fout = Symbol.idle.code := (h.filterTick_fout raw).trans hidle
  have hmode := mode_ne_three h.inv.mode_le
  have hmain := State.ticked_mainRegs_of_no_command hmode (State.evaluates_of_ready h.mode)
    (show commandFor s.cfg s.prev (filterTick s.cfg s.filter raw).fout = none by rw [hfout, commandFor_idle])
  refine ⟨⟨h.inv.ticked raw, ?_, congrArg MainRegs.mode hmain, ?_⟩, congrArg MainRegs.cmdStrobe hmain⟩
  · rw [(h.inv.ticked_keepsSetting raw).cfg, h.oneshot]
  · exact (congrArg MainRegs.prev hmain).trans hfout

/-- A run of ticks that commit no button. -/
theorem of_runSteps {s t : State} {raws : List RawSample} (h : s.AwaitsPress) (hin : s.input = raws.map tickWord) {j : Nat}
    (hj : j ≤ raws.length) (hidle : ∀ i ≤ j, (filterRun s.cfg s.filter (raws.take i)).stable = Symbol.idle.code)
    (hrun : runSteps j s = .next t) : t.AwaitsPress ∧ (0 < j → t.cmdStrobe = false) := by
  induction j generalizing t with
  | zero =>
    cases hrun
    exact ⟨h, nofun⟩
  | succ j ih =>
    obtain ⟨u, hu, -, -, hfilter, hnext⟩ := h.inv.runSteps_tick hin hj
    obtain ⟨hawaits, -⟩ := ih (Nat.le_of_succ_le hj) (fun i hi => hidle i (Nat.le_succ_of_le hi)) hu
    rw [hnext] at hrun
    cases hrun
    have htick := (hawaits.withInput ((raws.drop (j + 1)).map tickWord)).tick (raw := raws[j])
      ((congrArg FilterRegs.stable hfilter).trans (hidle (j + 1) le_rfl))
    exact ⟨htick.1, fun _ => htick.2⟩

/-- A tick that commits a button sends the button's command (R170, R255). -/
theorem tick_of_press {s : State} (h : s.AwaitsPress) {raw : RawSample} {y : Symbol} {c : CmdCode} {v : Bool}
    (hy : (filterTick s.cfg s.filter raw).stable = y.code) (hcmd : commandFor s.cfg Symbol.idle.code y.code = some (c, v)) :
    (s.ticked raw).mainRegs = ⟨y.code, modeTx, c, 0, v, s.waitLeft, true, true, c⟩ := by
  have hfout : (filterTick s.cfg s.filter raw).fout = y.code := (h.filterTick_fout raw).trans hy
  rw [← hfout] at hcmd ⊢
  exact State.ticked_mainRegs_of_command (mode_ne_three h.inv.mode_le) (State.evaluates_of_ready h.mode) (h.prev ▸ hcmd)

/-- The run up to the first commit: its last tick is the evaluation that sends the committed button's command. -/
theorem run_press {s : State} {raws : List RawSample} {y : Symbol} {c : CmdCode} {v : Bool} (h : s.AwaitsPress)
    (hin : s.input = raws.map tickWord) {k : Nat} (hk : k < raws.length)
    (hidle : ∀ i ≤ k, (filterRun s.cfg s.filter (raws.take i)).stable = Symbol.idle.code)
    (hy : (filterRun s.cfg s.filter (raws.take (k + 1))).stable = y.code)
    (hcmd : commandFor s.cfg Symbol.idle.code y.code = some (c, v)) :
    ∃ t w, runSteps (k + 1) s = .next t ∧ t.stable = y.code ∧ t.fout = y.code ∧
      t.mainRegs = ⟨y.code, modeTx, c, 0, v, w, true, true, c⟩ := by
  obtain ⟨t, hrun, -, hcfg, hfilter, hnext⟩ := h.inv.runSteps_tick hin hk
  obtain ⟨ht, -⟩ := h.of_runSteps hin hk.le hidle hrun
  have hstart := ht.withInput ((raws.drop (k + 1)).map tickWord)
  have hcommit : (filterTick t.cfg t.filter raws[k]).stable = y.code := (congrArg FilterRegs.stable hfilter).trans hy
  exact ⟨_, _, hnext, (congrArg FilterRegs.stable (State.ticked_filter _ _)).trans hcommit,
    (State.ticked_fout _ _).trans ((hstart.filterTick_fout _).trans hcommit), hstart.tick_of_press hcommit (hcfg ▸ hcmd)⟩

end State.AwaitsPress

/-! ### The first ticks of a transmission -/

/-- After the bus-reset pulse every transmission goes on with the low level of the AGC pair (R191, R197). -/
theorem txWave_one (addr c : CmdCode) : (txWave addr c)[1]? = some false := rfl

theorem one_lt_txLen (addr c : CmdCode) : 1 < txLen addr c := by
  rw [← length_txWave]
  exact (List.getElem?_eq_some_iff.mp (txWave_one addr c)).1

/-- The tick after an emission drives the pin low (R199). -/
theorem State.Inv.runSteps_pin_of_emission {s t : State} {raws : List RawSample} (hs : s.Inv) (hin : s.input = raws.map tickWord)
    {j : Nat} (hj : j < raws.length) (hrun : runSteps j s = .next t) (hm : t.mode = modeTx) (hpos : t.txPos = 0) :
    ∃ u, runSteps (j + 1) s = .next u ∧ u.pin = false := by
  obtain ⟨t', hrun', ht, -, -, hnext⟩ := hs.runSteps_tick hin hj
  rw [hrun] at hrun'
  cases hrun'
  have hlen := one_lt_txLen t.cfg.addr t.txCmd
  have hu := ((State.FlightAt.start ht hm hpos).withInput ((raws.drop (j + 1)).map tickWord)).tick
    (Nat.lt_add_right _ hlen) raws[j]
  refine ⟨_, hnext, ?_⟩
  obtain ⟨-, hmode, htx, -⟩ | ⟨hle, -⟩ := hu.phase
  · have hpin := hu.inv.pin_tx hmode
    rw [htx] at hpin
    exact (Option.some.inj hpin).symm
  · exact absurd hlen hle.not_gt

end Sys2Proof.Machine
end

section
/-! The statements of spec 70_reset_and_hazards.md. -/

namespace Sys2Proof.Machine

/-- Settles O37: below the window the block waits in READY, the tick that fills it commits the button and is the evaluation that
sends its command, and the next tick is the second of the waveform. -/
theorem pressLatency : Obligations.PressLatency := by
  intro s y raws last hs hos hm hstable hprev hzero hy hsym hlen hin
  obtain ⟨-, ⟨hpos, hn⟩, -, -⟩ := s.cfg.legal_iff.mp hs.legal
  have hawaits : s.AwaitsPress := ⟨hs, hos, hm, hprev⟩
  have hdcount : s.filter.dcount.toNat = 0 := congrArg BitVec.toNat hzero
  have hne : y.code ≠ s.filter.stable := fun heq => symbolCode_ne_idle hy (heq.trans hstable)
  have htotal : (raws ++ [last]).length = s.cfg.n + 1 := by rw [List.length_append, hlen, List.length_singleton]
  have hshort : ∀ j < s.cfg.n, (filterRun s.cfg s.filter ((raws ++ [last]).take j)).stable = Symbol.idle.code := by
    intro j hj
    rw [List.take_append_of_le_length (by omega)]
    have hcount := filterRun_of_short (f := s.filter) (raws := raws.take j) hn
      (fun r hr => by rwa [hsym r (List.mem_of_mem_take hr)]) (by rw [List.length_take]; omega)
    exact hcount.1.trans hstable
  have hfull : (filterRun s.cfg s.filter ((raws ++ [last]).take s.cfg.n)).stable = y.code := by
    rw [← hlen, List.take_left]
    exact (filterRun_of_full hn hsym hne (by omega) (by omega)).1
  refine ⟨fun j hj => ?_, ?_⟩
  · obtain ⟨t, hrun, hfilter⟩ := hs.runSteps_take hin (j := j) (by omega)
    obtain ⟨ht, hquiet⟩ := hawaits.of_runSteps hin (by omega) (fun i hi => hshort i (by omega)) hrun
    exact ⟨t, hrun, (congrArg FilterRegs.stable hfilter).trans (hshort j hj), ht.mode, ht.inv.pin_idle (by simp [ht.mode]),
      hquiet⟩
  · obtain ⟨k, hk⟩ : ∃ k, s.cfg.n = k + 1 := Nat.exists_eq_add_of_le' hpos
    rw [hk] at htotal hshort hfull ⊢
    obtain ⟨c, v, hcmd⟩ := commandFor_of_press s.cfg hy
    obtain ⟨t, w, hrun, hstable', hfout, hmain⟩ :=
      hawaits.run_press hin (by omega) (fun i hi => hshort i (by omega)) hfull hcmd
    have hmode : t.mode = modeTx := congrArg MainRegs.mode hmain
    have htxPos : t.txPos = 0 := congrArg MainRegs.txPos hmain
    obtain ⟨u, hrun', hlow⟩ := hs.runSteps_pin_of_emission hin (by omega) hrun hmode htxPos
    exact ⟨c, v, t, u, hcmd, hrun, hstable', hfout, congrArg MainRegs.cmdStrobe hmain, congrArg MainRegs.cmdCode hmain, hmode,
      congrArg MainRegs.txCmd hmain, htxPos, congrArg MainRegs.txVol hmain, congrArg MainRegs.pin hmain, hrun', hlow⟩

/-- Settles O40: the suppressed filter's output is IDLE at every tick, and a tick that reads IDLE sends nothing. -/
theorem oneShotHoldSendsOnce : Obligations.OneShotHoldSendsOnce := by
  intro s y raws hs hos hreset _ _ harmed _ hy hstable hsym hin j hj0 hj
  obtain ⟨k, rfl⟩ : ∃ k, j = k + 1 := Nat.exists_eq_succ_of_ne_zero hj0.ne'
  have hrst : s.filter.stable ≠ s.cfg.resetSym :=
    fun heq => symbolCode_ne_idle hy (hstable.symm.trans (heq.trans hreset))
  have hsym' : ∀ r ∈ raws.take (k + 1), (classify s.cfg r).code = s.filter.stable :=
    fun r hr => (congrArg Symbol.code (hsym r (List.mem_of_mem_take hr))).trans hstable.symm
  obtain ⟨t, -, ht, -, hfilter, hrun⟩ := hs.runSteps_tick hin hj
  have hlast : raws.take (k + 1) ≠ [] := List.ne_nil_of_length_pos (by rw [List.length_take]; omega)
  rw [filterRun_of_suppressed (by simp [hos]) hrst (Bool.eq_false_iff.mp harmed) hsym' hlast] at hfilter
  have hidle : (filterTick t.cfg t.filter raws[k]).fout = Symbol.idle.code :=
    (congrArg FilterRegs.fout hfilter).trans hreset
  exact ⟨_, hrun, State.ticked_cmdStrobe_of_idle (mode_ne_three ht.mode_le) hidle, (State.ticked_fout _ _).trans hidle⟩

/-- Settles O16: `resetRegs` writes every register and leaves the configuration, the pending input and the slot. -/
theorem resetWritesResetValues : Obligations.ResetWritesResetValues :=
  ⟨fun _ hrst => decodeStim_of_rst hrst, fun _ => rfl⟩

/-- Settles O17: with RESET_SYM = IDLE no register's reset value depends on the configuration. -/
theorem resetStateSummary : Obligations.ResetStateSummary := by
  intro s hidle
  refine ⟨s.resetRegs, rfl, hidle, hidle, rfl, rfl, rfl, rfl, rfl, rfl, rfl, rfl, rfl, rfl, rfl, rfl, rfl, ?_, rfl⟩
  change FilterRegs.mk s.cfg.resetSym 0 true s.cfg.resetSym = _
  rw [hidle]
  rfl

/-- Settles O18. -/
theorem heldResetIsIdempotent : Obligations.HeldResetIsIdempotent := by
  refine ⟨fun s t h => ?_, rfl⟩
  cases h
  exact congrArg Host.Outcome.next s.resetRegs_resetRegs

/-- Settles O48: OP_RESET makes the invariant under every legal configuration, EX2 among them. -/
theorem invariantHoldsAfterReset : Obligations.InvariantHoldsAfterReset :=
  ⟨fun s hc hslot => ⟨s.resetRegs, rfl, State.resetRegs_inv hc hslot⟩, fun _ hc => resetOf_inv hc,
    resetOf_inv (show Config.ex2.legal = true by decide)⟩

end Sys2Proof.Machine
end
